-- ==== Sys2Proof/Word.lean ====
section
/-! DEFINITION. Word.lean: the widths of values that cross the block's ports
(spec `00_scope.md` R4, R5; `30_encoding.md` R30, R36, R38). Every value is an unsigned integer of a
stated width; bit 0 is the least significant (R5). -/

namespace Sys2Proof

/-- An operand port, `W_IN` = 32 bits (R4, R36). -/
abbrev Word := BitVec 32

/-- A Frame, `FRAME_W` = 24 bits (R4, R30). -/
abbrev Frame := BitVec 24

/-- A checksum or the LFSR register, `CRC_W` = 3 bits (R4, R11). -/
abbrev Crc := BitVec 3

/-- The operation select `req_op`, `OP_W` = 2 bits (R4, R37). -/
abbrev OpCode := BitVec 2

/-- A whole request port laid out as one number, 2 + 1 + 4 * 32 = 131 bits (assumption log 11). -/
abbrev RequestWord := BitVec 131

end Sys2Proof
end

