-- ==== Sys2Proof/Ports.lean ====
section
/-! DEFINITION. Ports.lean: what crosses the block's ports: a request (spec `30_encoding.md` R36), a
response (R38), the input pins of one clock cycle (R36, `70_reset_and_hazards.md` R111), and the
Verifier's TestVector (R43). -/

namespace Sys2Proof

/-- The operand ports of a request (R36), also the operand latches of `10_state.md` R13. A 1-bit port is
a `Bool`: 1 is `true` (R36, D5; assumption log 14). -/
structure Request where
  /-- `req_op`, 2 bits. -/
  op    : OpCode
  /-- `req_cmd`, 1 bit. -/
  cmd   : Bool
  /-- `req_addr`, 32 bits, before masking. -/
  addr  : Word
  /-- `req_data`, 32 bits, before masking. -/
  data  : Word
  /-- `req_frame`, 32 bits. -/
  frame : Word
  /-- `req_exp`, 32 bits, before masking. -/
  exp   : Word
  deriving DecidableEq, Repr, Inhabited

/-- The data fields of a response (R38). -/
structure Response where
  /-- `rsp_frame`, 24 bits. -/
  frame : Frame
  /-- `rsp_crc`, 3 bits. -/
  crc   : Crc
  /-- `rsp_pass`, 1 bit. -/
  pass  : Bool
  deriving DecidableEq, Repr, Inhabited

/-- The values on the block's input pins in one clock cycle (R36, R111). -/
structure Pins where
  /-- `rst`, active high (R111). -/
  rst      : Bool
  /-- `req_valid` (R36). -/
  reqValid : Bool
  /-- The operand ports. -/
  req      : Request
  deriving DecidableEq, Repr, Inhabited

/-- The request with every operand port 0. -/
def Request.zero : Request := { op := 0, cmd := false, addr := 0, data := 0, frame := 0, exp := 0 }

/-- A cycle in which the host does nothing: no reset, no request offered. -/
def Pins.quiet : Pins := { rst := false, reqValid := false, req := Request.zero }

/-- A cycle in which the host offers the request `r`. -/
def Pins.offer (r : Request) : Pins := { rst := false, reqValid := true, req := r }

/-- A TestVector, "(command: bool, address: 0–127, data: 0–255, expectedCrc: 0–7)" (R43). The ranges are
what a table is expected to contain, not limits the block enforces (R43), so the three numbers have the
widths of the ports they map to. -/
structure TestVector where
  command     : Bool
  address     : Word
  data        : Word
  expectedCrc : Word
  deriving DecidableEq, Repr, Inhabited

end Sys2Proof
end

