-- ==== Sys2Proof/Syntax.lean ====
section
/-! DEFINITION. Syntax.lean: the four operations of the block, one constructor per row of
spec/opcode_table.json (spec `30_encoding.md` R37), each with the operands its row of R36 uses, in the
order of the written form (R41). -/

namespace Sys2Proof

/-- An operation with its operands, before any narrowing (R39). -/
inductive Instr where
  /-- PACK addr, data, cmd (R70). -/
  | pack (addr data : Word) (cmd : Bool)
  /-- CRC3 frame (R50). -/
  | crc3 (frame : Word)
  /-- CHECK addr, data, cmd, exp (R80). -/
  | check (addr data : Word) (cmd : Bool) (exp : Word)
  /-- SEAL frame (R81). -/
  | sealFrame (frame : Word)
  deriving DecidableEq, Repr

end Sys2Proof
end

