-- ==== Sys2Proof/Decode.lean ====
section
/-! DEFINITION. Decode.lean: from the request port to an operation (spec `30_encoding.md` R36, R37), and
the encoder written from the same tables. All four operation codes are defined (R37, R40), so decoding
is total and rejects nothing. -/

namespace Sys2Proof

/-- The operation a request selects, with the operands R36 says that operation uses; the other operand
ports are ignored (R36, R37). -/
def decode (r : Request) : Instr :=
  if r.op = 0b00#2 then .pack r.addr r.data r.cmd
  else if r.op = 0b01#2 then .crc3 r.frame
  else if r.op = 0b10#2 then .check r.addr r.data r.cmd r.exp
  else .sealFrame r.frame

/-- `req_op` of an operation (R37). -/
def Instr.opCode : Instr → OpCode
  | .pack _ _ _ => 0b00#2
  | .crc3 _ => 0b01#2
  | .check _ _ _ _ => 0b10#2
  | .sealFrame _ => 0b11#2

/-- A request for an operation. The operand ports the operation does not use may be anything (R36); this
request drives them to 0 (assumption log 13). -/
def requestOf : Instr → Request
  | .pack a d c => { Request.zero with op := 0b00#2, cmd := c, addr := a, data := d }
  | .crc3 f => { Request.zero with op := 0b01#2, frame := f }
  | .check a d c e => { Request.zero with op := 0b10#2, cmd := c, addr := a, data := d, exp := e }
  | .sealFrame f => { Request.zero with op := 0b11#2, frame := f }

/-! ### The request port as one number (assumption log 11)

Bits [1:0] `req_op`, as the opcode table numbers them; then in R36's order `req_cmd` [2], `req_addr`
[34:3], `req_data` [66:35], `req_frame` [98:67], `req_exp` [130:99]. -/

/-- A request as one number. -/
def Request.toWord (r : Request) : RequestWord :=
  (r.exp ++ (r.frame ++ (r.data ++ (r.addr ++ (BitVec.ofBool r.cmd ++ r.op)))))

/-- The request a number stands for. -/
def Request.ofWord (w : RequestWord) : Request :=
  { op := w.extractLsb' 0 2
    cmd := w.getLsbD 2
    addr := w.extractLsb' 3 32
    data := w.extractLsb' 35 32
    frame := w.extractLsb' 67 32
    exp := w.extractLsb' 99 32 }

/-- The operation a request word stands for. No word is refused (R40). -/
def decodeWord (w : RequestWord) : Option Instr := some (decode (Request.ofWord w))

/-- The request word of an operation. -/
def encode (i : Instr) : RequestWord := (requestOf i).toWord

/-- The request whose low `nbits` bits are those of `w` and whose other bits are 0. -/
def Request.ofTableWord (nbits w : Nat) : Request := Request.ofWord (BitVec.ofNat 131 (w % 2 ^ nbits))

/-- The operation the decoder reads from the low `nbits` bits of `w`, numbered as the opcode table
numbers them, every higher bit 0. -/
def decodeTableWord (nbits w : Nat) : Option Instr := some (decode (Request.ofTableWord nbits w))

end Sys2Proof
end

