-- ==== Sys2Proof/Machine/Operands.lean ====
section
/-! DEFINITION. Machine/Operands.lean: every operand form of the block: the Frame's field accessors and
masks (spec `30_encoding.md` R31), the ChecksumWindow (R34) and the narrowing of each operand (R39). -/

namespace Sys2Proof.Machine

/-- Bit `k` of a value (`00_scope.md` R5). -/
def bitOf {w : Nat} (v : BitVec w) (k : Nat) : Bool := v.getLsbD k

/-! ### Field accessors of a value at least 24 bits wide (R31) -/

/-- `F_C(f) = (f >> 23) & 0x1` (R31). -/
def fieldC (f : Word) : BitVec 1 := ((f >>> 23) &&& 0x1#32).setWidth 1

/-- `F_ADDR(f) = (f >> 16) & 0x7F` (R31). -/
def fieldAddr (f : Word) : BitVec 7 := ((f >>> 16) &&& 0x7F#32).setWidth 7

/-- `F_DATA(f) = (f >> 8) & 0xFF` (R31). -/
def fieldData (f : Word) : BitVec 8 := ((f >>> 8) &&& 0xFF#32).setWidth 8

/-- `F_RSVD(f) = (f >> 3) & 0x1F` (R31). -/
def fieldRsvd (f : Word) : BitVec 5 := ((f >>> 3) &&& 0x1F#32).setWidth 5

/-- `F_CRC(f) = f & 0x7` (R31). -/
def fieldCrc (f : Word) : Crc := (f &&& 0x7#32).setWidth 3

/-- `WIN(f) = (f >> 3) & 0x1FFFFF`, the 21-bit ChecksumWindow (R34). -/
def window (f : Word) : BitVec 21 := ((f >>> 3) &&& 0x1FFFFF#32).setWidth 21

/-- The in-place masks of R31, on a 32-bit operand. -/
def cMask      : Word := 0x800000#32
def addrMask   : Word := 0x7F0000#32
def dataMask   : Word := 0x00FF00#32
def rsvdMask   : Word := 0x0000F8#32
def crcMask    : Word := 0x000007#32
def windowMask : Word := 0xFFFFF8#32
def frameMask  : Word := 0xFFFFFF#32

/-! ### Operand narrowing (R39): by masking, never rejected -/

/-- `a7 = req_addr & 0x7F` (R39, R71). -/
def narrowAddr (a : Word) : BitVec 7 := (a &&& 0x7F#32).setWidth 7

/-- `d8 = req_data & 0xFF` (R39, R71). -/
def narrowData (d : Word) : BitVec 8 := (d &&& 0xFF#32).setWidth 8

/-- `c1 = req_cmd`, already one bit (R39, R71). -/
def narrowCmd (c : Bool) : BitVec 1 := BitVec.ofBool c

/-- `e3 = req_exp & 0x7` (R39, R80). -/
def narrowExp (e : Word) : Crc := (e &&& 0x7#32).setWidth 3

/-- A Frame presented on a 32-bit operand port, the bits above 23 zero (R33, R36). -/
def frameToPort (f : Frame) : Word := f.setWidth 32

end Sys2Proof.Machine
end

