-- ==== Sys2Proof/Machine/State.lean ====
section
/-! DEFINITION. Machine/State.lean: the block's state (spec `10_state.md` R10 to R19, `30_encoding.md`
R38), with the pins the host drives from now on, and the state after reset (R19). -/

namespace Sys2Proof.Machine

/-- The block in one clock cycle. There is no register file, program counter, flag, control register or
memory (R14 to R18). -/
structure State where
  /-- 1 from the acceptance of a request until its response has been presented (R13, R114). -/
  busy      : Bool
  /-- 1 in the cycle a response is presented (R38, R116). -/
  rspValid  : Bool
  /-- The 3-bit LFSR register (R11). -/
  lfsr      : BitVec 3
  /-- The index of the Frame bit the next LFSR step consumes (R12). -/
  idx       : BitVec 5
  /-- The operand latches `op`, `cmd`, `addr`, `data`, `frame`, `exp` (R13). -/
  latch     : Request
  /-- The response data fields `rsp_frame`, `rsp_crc`, `rsp_pass` (R38). -/
  rsp       : Response
  /-- The model's own: clock edges still to pass before the response of the operation in flight
  (R117; assumption log 7). -/
  wait      : Nat
  /-- What the host is known to drive on the pins, this cycle first; what it drives after that is free
  (R36, R111, R118; assumption log 2). -/
  inputs    : List Pins
  /-- The model's own: the number of this cycle, the index of the host's free pins (assumption log 2). -/
  hostCycle : Nat
  /-- The model's own: the index of the next free value (assumption log 8). -/
  freeCount : Nat
  deriving DecidableEq, Repr

/-- No operation faults: "There are no recoverable error conditions" (`60_exceptions.md` R100). -/
inductive Fault where
  deriving DecidableEq, Repr

/-- No operation is refused (`60_exceptions.md` R100, R102). -/
inductive Refusal where
  /-- An operation that has no meaning yet: raised by an arm of `exec` that gives none, and every arm
  gives one, so by nothing. Safe. -/
  | notModelled (mnemonic : String)
  deriving DecidableEq, Repr

/-- The block after reset, with nothing known of the host: `busy` = 0, `rsp_valid` = 0, `lfsr` = `0b100`,
`idx` = 23 (R19). The latches and the response data, which R19 leaves unspecified, hold 0 (DESIGN CHOICE, assumption
log 4). -/
def State.reset : State where
  busy := false
  rspValid := false
  lfsr := 0b100#3
  idx := 23#5
  latch := Request.zero
  rsp := { frame := 0, crc := 0, pass := false }
  wait := 0
  inputs := []
  hostCycle := 0
  freeCount := 0

end Sys2Proof.Machine
end

