-- ==== Sys2Proof/Machine/Lfsr.lean ====
section
/-! DEFINITION. Machine/Lfsr.lean: the checksum: the LFSR step, the CRC3 function as a fold over the
window's bits (spec `40_crc3engine.md` R50 to R54), and the same computation as micro-steps on the
registers `lfsr` and `idx` (R62), which the operations run. -/

namespace Sys2Proof.Machine

/-- `LFSR_INIT`, the literal `0b100`; not derived from the seed `101` (R51). -/
def lfsrInit : Crc := 0b100#3

/-- `LFSR_STEP(r, in)` (R53): with `fb = in ^ r[2]`, the new bits 2, 1, 0 are `r[1]`, `r[0] ^ fb`, `fb`,
all from the old register. -/
def lfsrStep (r : Crc) (input : Bool) : Crc :=
  let fb := input ^^ bitOf r 2
  BitVec.ofBool (bitOf r 1) ++ (BitVec.ofBool (bitOf r 0 ^^ fb) ++ BitVec.ofBool fb)

/-- The bit indices consumed: 23 down to 3, 21 of them, the most significant first (R52). -/
def windowBits : List Nat :=
  [23, 22, 21, 20, 19, 18, 17, 16, 15, 14, 13, 12, 11, 10, 9, 8, 7, 6, 5, 4, 3]

/-- `CRC3(frame)` (R50): the register starts at `LFSR_INIT`, takes one step per bit of the window, and
its final value masked to 3 bits is the result (R54). -/
def crc3 (f : Word) : Crc :=
  (windowBits.foldl (fun r i => lfsrStep r (bitOf f i)) lfsrInit) &&& 0b111#3

/-! ### The bit-serial micro-steps (R62) -/

/-- INIT: `lfsr` <- `0b100`, `idx` <- 23 (R62). -/
def State.microInit (s : State) : State := { s with lfsr := lfsrInit, idx := 23#5 }

/-- SHIFT: `lfsr` <- `LFSR_STEP(lfsr, frame[idx])`, then `idx` <- `idx` - 1 unless it is 3 (R62). -/
def State.microShift (f : Word) (s : State) : State :=
  { s with
    lfsr := lfsrStep s.lfsr (bitOf f s.idx.toNat)
    idx := if s.idx = 3#5 then s.idx else s.idx - 1#5 }

/-- `n` SHIFT micro-steps. -/
def State.microShifts (f : Word) : Nat → State → State
  | 0, s => s
  | n + 1, s => State.microShifts f n (s.microShift f)

/-- A whole computation: INIT and exactly 21 SHIFT micro-steps, internal to the operation (R62, R23;
assumption log 1). -/
def State.computeCrc (f : Word) (s : State) : State := (s.microInit).microShifts f 21

/-- DONE: the result is `lfsr & 0b111` (R54, R62). -/
def State.crcResult (s : State) : Crc := s.lfsr &&& 0b111#3

end Sys2Proof.Machine
end

