-- ==== Sys2Proof/Config.lean ====
section
/-! DEFINITION. Config.lean: what an implementation fixes (spec `00_scope.md` R4: the open parameters)
and the free values (`93_implementation_defined.md` U6, U7). None of them has a body: a statement about
the model holds whatever they are. Each is one constant for all instances of the block (assumption log
20). The values the source fixes (widths, window, start value,
polynomial, field positions) are constants of the step function (`10_state.md` R17), not found here. -/

namespace Sys2Proof.Config

/-- `LAT(op)`: the response is presented in cycle 1 + `LAT(op)` after the accepting edge; any natural
number (`70_reset_and_hazards.md` R117, D9, U8; assumption log 6). -/
opaque lat : OpCode → Nat

/-- `REF_TABLE`, the reference table the Verifier runs over (`42_verifier_and_composites.md` R86, D19,
U9; assumption log 18). -/
opaque refTable : List TestVector

/-- The free value of the response data fields in a cycle with `rsp_valid` = 0 (R38, U7; assumption
log 8). -/
opaque freeResponse : Nat → Response

/-- The free value of the input pins in a cycle the host's list does not reach, by the number of the
cycle: the host may do anything there (R118; assumption log 2). -/
opaque hostPins : Nat → Pins

/-- The free value of the operand latches in an idle cycle (U6; assumption log 9). -/
opaque freeRequest : Nat → Request

end Sys2Proof.Config
end

