-- ==== Sys2Proof/Machine/Ops.lean ====
section
/-! DEFINITION. Machine/Ops.lean: the named operations over the block's registers and pins: sampling the
pins, accepting a request, waiting, presenting a response, ending it, idling, reset (spec
`70_reset_and_hazards.md` R111 to R118). There is no memory to read or write (`20_memory.md` R20), and no
exception is ever taken or returned from (`60_exceptions.md` R100, R105, R106): those operations have no
counterpart here. -/

namespace Sys2Proof.Machine

/-! ### Pins and ports -/

/-- The pins `k` cycles from now: as listed, and free after the list's end (R118; assumption log 2). So
every state has pins for every cycle to come. Two states with the same `hostCycle`, those of two instances
among them, have the same free pins (DESIGN CHOICE, assumption log 20). -/
def State.pinsAt (s : State) (k : Nat) : Pins := s.inputs[k]?.getD (Config.hostPins (s.hostCycle + k))

/-- The pins of the current cycle. -/
def State.pins (s : State) : Pins := s.pinsAt 0

/-- `req_ready` is 1 exactly when `busy` is 0 (R36, R114). -/
def State.reqReady (s : State) : Bool := !s.busy

/-- The port `rsp_valid`: a response is presented unless `rst` is 1 in that same cycle (R112, R116;
assumption log 3). In such a cycle the response data keep the abandoned operation's response, although
U7 allows any value (DESIGN CHOICE, assumption log 22). -/
def State.presents (s : State) : Bool := s.rspValid && !s.pins.rst

/-- A request is accepted at an edge with `req_valid` = 1, `req_ready` = 1 and `rst` = 0 (R114). In a state
with `rsp_valid` = 1 and `busy` = 0, which no run reaches, `step` accepts nothing all the same (DESIGN
CHOICE, assumption log 23). -/
def State.accepts (s : State) : Bool := s.pins.reqValid && s.reqReady && !s.pins.rst

/-- The next cycle's pins come up. -/
def State.nextPins (s : State) : State :=
  { s with inputs := s.inputs.tail, hostCycle := s.hostCycle + 1 }

/-! ### What is left open while no response is presented -/

/-- While `rsp_valid` is 0 the response data mean nothing (R38, U7): free values (assumption log 8), the same
in two states with the same `freeCount` (DESIGN CHOICE, assumption log 20). -/
def State.freeRsp (s : State) : State :=
  { s with rspValid := false, rsp := Config.freeResponse s.freeCount, freeCount := s.freeCount + 1 }

/-- Outside an operation the operand latches may hold anything (R13, U6): free values (assumption
log 9), the same in two states with the same `freeCount` (DESIGN CHOICE, assumption log 20). -/
def State.freeLatch (s : State) : State :=
  { s with latch := Config.freeRequest s.freeCount, freeCount := s.freeCount + 1 }

/-! ### The clock edges -/

/-- A reset edge: the block goes to the state after reset; whatever was in flight is gone (R111, R112).
What the host does next is not the block's to reset. -/
def State.resetEdge (s : State) : State :=
  { State.reset with inputs := s.inputs, hostCycle := s.hostCycle, freeCount := s.freeCount }

/-- Acceptance: all operands are sampled together into the latches, `busy` becomes 1 (R13, R114, R115),
and `LAT(op)` edges remain (R117). -/
def State.accept (r : Request) (s : State) : State :=
  { s with busy := true, latch := r, wait := Config.lat r.op }

/-- A cycle of an operation in flight without its response yet (R117). -/
def State.countDown (s : State) : State := { s with wait := s.wait - 1 }

/-- The end of the response's cycle: `busy` returns to 0 (R116) and the operation is over. -/
def State.endResponse (s : State) : State := { (s.freeRsp).freeLatch with busy := false }

/-- An idle cycle with no request accepted. -/
def State.idle (s : State) : State := (s.freeRsp).freeLatch

/-- Presenting a response: `rsp_valid` = 1 with all data fields together (R23, R38). Every operation ends
in it; `busy` stays 1 until this cycle has passed (R114, R116). -/
def State.presentResponse (frame : Frame) (crc : Crc) (pass : Bool) (s : State) : State :=
  { s with rspValid := true, rsp := { frame := frame, crc := crc, pass := pass } }

end Sys2Proof.Machine
end

