-- ==== Sys2Proof/Machine/Crc3Engine.lean ====
section
/-! DEFINITION. Machine/Crc3Engine.lean: the CRC3 operation (spec `40_crc3engine.md` R50, R55). -/

namespace Sys2Proof.Machine

/-- CRC3: `rsp_crc` is the checksum of the operand, `rsp_frame` and `rsp_pass` are 0; it writes `lfsr` and
`idx` and is defined for every operand (R50, R55). -/
def execCrc3 (frame : Word) (s : State) : Host.Outcome State Fault Refusal :=
  let s := s.computeCrc frame
  .next (s.presentResponse 0 s.crcResult false)

end Sys2Proof.Machine
end

