-- ==== Sys2Proof/Machine/FramePacker.lean ====
section
/-! DEFINITION. Machine/FramePacker.lean: the PACK operation (spec `41_framepacker.md` R70 to R75). -/

namespace Sys2Proof.Machine

/-- `PACK(address, data, command)` = `(c1 << 23) | (a7 << 16) | (d8 << 8)`, a 24-bit value (R70 to R72). -/
def pack (address data : Word) (command : Bool) : Frame :=
  ((narrowCmd command).setWidth 24 <<< 23) |||
  ((narrowAddr address).setWidth 24 <<< 16) |||
  ((narrowData data).setWidth 24 <<< 8)

/-- PACK: `rsp_frame` is the packed, checksum-cleared Frame, `rsp_crc` and `rsp_pass` are 0; it touches
neither `lfsr` nor `idx` and cannot fail (R70, R74). -/
def execPack (addr data : Word) (cmd : Bool) (s : State) : Host.Outcome State Fault Refusal :=
  .next (s.presentResponse (pack addr data cmd) 0 false)

end Sys2Proof.Machine
end

