-- ==== Sys2Proof/Machine/Sealer.lean ====
section
/-! DEFINITION. Machine/Sealer.lean: the SEAL operation (spec `42_verifier_and_composites.md` R81). -/

namespace Sys2Proof.Machine

/-- `(frame & 0xFFFFF8) | k`: bits [23:3] kept, bits [2:0] replaced, bits above 23 dropped (R81). -/
def insertCrc (frame : Word) (k : Crc) : Frame :=
  ((frame &&& windowMask) ||| k.setWidth 32).setWidth 24

/-- `SEAL(frame).s` (R81). -/
def sealFrame (frame : Word) : Frame := insertCrc frame (crc3 frame)

/-- SEAL: `rsp_frame` is the operand with its checksum in bits [2:0], `rsp_crc` the checksum, `rsp_pass`
0; the reserved bits are kept as given (R81). -/
def execSeal (frame : Word) (s : State) : Host.Outcome State Fault Refusal :=
  let s := s.computeCrc frame
  .next (s.presentResponse (insertCrc frame s.crcResult) s.crcResult false)

end Sys2Proof.Machine
end

