-- ==== Sys2Proof/Machine/Flags.lean ====
section
/-! DEFINITION. Machine/Flags.lean: the one boolean the block computes. There is no persistent flag and
no condition code (spec `10_state.md` R16): `pass` is a field of CHECK's response. -/

namespace Sys2Proof.Machine

/-- `pass <- (k == e3)`: the computed checksum against the expected one masked to 3 bits, unsigned and on
3 bits (`42_verifier_and_composites.md` R80). -/
def passFlag (k : Crc) (expected : Word) : Bool := k == narrowExp expected

end Sys2Proof.Machine
end

