-- ==== Sys2Proof/Machine/Verifier.lean ====
section
/-! DEFINITION. Machine/Verifier.lean: the CHECK operation (spec `42_verifier_and_composites.md` R80) and
the Verifier's fold over a table with its records and summary (R82 to R88), which the host holds. -/

namespace Sys2Proof.Machine

/-- CHECK: pack the vector, take the checksum of the packed Frame, compare it with the expected one
masked to 3 bits; all three are answered, and a mismatch is a result, not a fault (R80, R101). -/
def execCheck (addr data : Word) (cmd : Bool) (exp : Word) (s : State) :
    Host.Outcome State Fault Refusal :=
  let f := pack addr data cmd
  let s := s.computeCrc (frameToPort f)
  let k := s.crcResult
  .next (s.presentResponse f k (passFlag k exp))

/-! ### The Verifier's fold -/

/-- The Verifier's record of one vector (R44, R83). -/
structure VerifyRecord where
  index       : Nat
  command     : Bool
  address     : Word
  data        : Word
  expectedCrc : Word
  computedCrc : Crc
  pass        : Bool
  deriving DecidableEq, Repr

/-- What the Verifier has emitted and counted so far; the two counts are the summary
`(mismatchCount, totalCount)` (R82, R84). The host holds it, not the block (D13). -/
structure Tally where
  records       : List VerifyRecord
  mismatchCount : Nat
  totalCount    : Nat
  deriving DecidableEq, Repr

/-- `INDEX_BASE` = 0 (R4, R83). -/
def indexBase : Nat := 0

/-- Nothing emitted, both counts 0 (R82). -/
def Tally.empty : Tally := { records := [], mismatchCount := 0, totalCount := 0 }

/-- One turn of the Verifier's loop, given CHECK's response to the vector: emit the record, count a
mismatch when `pass` is 0, count the vector (R82, R83). -/
def Tally.add (t : Tally) (v : TestVector) (r : Response) : Tally :=
  { records := t.records ++
      [{ index := indexBase + t.totalCount, command := v.command, address := v.address,
         data := v.data, expectedCrc := v.expectedCrc, computedCrc := r.crc, pass := r.pass }]
    mismatchCount := if r.pass then t.mismatchCount else t.mismatchCount + 1
    totalCount := t.totalCount + 1 }

/-- `CHECK(address, data, command, expected)` as a function (R80). -/
def checkVector (v : TestVector) : Response :=
  let f := pack v.address v.data v.command
  let k := crc3 (frameToPort f)
  { frame := f, crc := k, pass := passFlag k v.expectedCrc }

/-- `VERIFY(table)` (R82): the fold over the whole table, in order; it never stops early (R88). -/
def verify (table : List TestVector) : Tally :=
  table.foldl (fun t v => t.add v (checkVector v)) Tally.empty

/-- The success indicator: `mismatchCount == 0` (R87). -/
def Tally.success (t : Tally) : Bool := t.mismatchCount == 0

/-- The Verifier over the reference table, which is open (R86). -/
def verifyReference : Tally := verify Config.refTable

end Sys2Proof.Machine
end

