-- ==== Sys2Proof/Machine/Dispatch.lean ====
section
/-! DEFINITION. Machine/Dispatch.lean: one arm per operation (spec `30_encoding.md` R37). -/

namespace Sys2Proof.Machine

def exec (i : Instr) (s : State) : Host.Outcome State Fault Refusal :=
  match i with
  | .pack addr data cmd => Sys2Proof.Machine.execPack addr data cmd s
  | .crc3 frame => Sys2Proof.Machine.execCrc3 frame s
  | .check addr data cmd exp => Sys2Proof.Machine.execCheck addr data cmd exp s
  | .sealFrame frame => Sys2Proof.Machine.execSeal frame s

end Sys2Proof.Machine
end

