-- ==== Sys2Proof/Machine/Step.lean ====
section
/-! DEFINITION. Machine/Step.lean: one rising edge of `clk` (spec `70_reset_and_hazards.md` R111 to R117).
The edge that presents a response runs the latched operation whole (D1; assumption log 1). -/

namespace Sys2Proof.Machine

/-- One clock edge, from the pins of the cycle that ends (assumption log 3).
`rst` wins over everything (R104, R112). A response has had its cycle (R116). An operation in flight
counts down and at the end answers (R117). Whether the response so presented shows on the port is
`State.presents`; where `rst` suppresses it, the data fields hold it all the same (DESIGN CHOICE,
assumption log 22). An idle block accepts an offered request, and with `LAT` = 0
answers it in the very next cycle (R114, R117). A response is ended whatever `busy` says: in a state with
`rsp_valid` = 1 and `busy` = 0, which no run reaches, an offered request is not accepted (DESIGN CHOICE,
assumption log 23). -/
def step (s : State) : Host.Outcome State Fault Refusal :=
  let p := s.pins
  let s := s.nextPins
  if p.rst then .next s.resetEdge
  else if s.rspValid then .next s.endResponse
  else if s.busy then
    if s.wait ≤ 1 then exec (decode s.latch) s.countDown
    else .next s.countDown.freeRsp
  else if p.reqValid then
    if Config.lat p.req.op = 0 then exec (decode p.req) (s.accept p.req)
    else .next (s.accept p.req).freeRsp
  else .next s.idle

/-- `s` with the request word `w` accepted and due at the very next edge: where `step` takes the
operation it runs from (the operand latches of R13). The coming edge's pins are quiet, so that edge is no
reset (assumption log 12). -/
def State.withFetchWord (s : State) (nbits w : Nat) : State :=
  { s with
    busy := true
    rspValid := false
    latch := Request.ofTableWord nbits w
    wait := 1
    inputs := Pins.quiet :: s.inputs }

end Sys2Proof.Machine
end

