-- ==== Sys2Proof/Machine/Instances.lean ====
section
/-! DEFINITION. Machine/Instances.lean: several instances of the block, each with its own state, sharing
nothing (spec `20_memory.md` R28, `60_exceptions.md` R110; assumption log 20). -/

namespace Sys2Proof.Machine

/-- Instances side by side; an instance has no identifier it can read (R110), only a place in this list.
The constants of Config are one for all of them. So two instances at the same `hostCycle`, both past their
listed pins, have the same free pins, and at the same `freeCount` the same free latch and response values,
where the spec lets each host and each instance differ (DESIGN CHOICE, assumption log 20: unsafe for a
claim that compares two instances there). Hosts that differ are given by the listed pins. -/
abbrev Bank := List State

/-- One clock edge of the instance in place `k`; the bank as it is when there is none. -/
def Bank.stepAt : Nat → Bank → Host.Outcome Bank Fault Refusal
  | _, [] => .next []
  | 0, s :: rest =>
    match step s with
    | .next t => .next (t :: rest)
    | .fault r => .fault r
    | .refused r => .refused r
  | k + 1, s :: rest =>
    match Bank.stepAt k rest with
    | .next rest' => .next (s :: rest')
    | .fault r => .fault r
    | .refused r => .refused r

end Sys2Proof.Machine
end

