-- ==== Sys2Proof/Machine/Written.lean ====
section
/-! DEFINITION. Machine/Written.lean: the one-line written form of a request (spec `30_encoding.md` R41)
and the pseudo-operation VERIFY (R42), as a form of its own, its reader from text, and its
expansion into operations. It is only the spec's way of writing a request; the block never sees it. -/

namespace Sys2Proof.Written

/-- A name a line binds or uses, as its characters. -/
abbrev Ident := List Char

/-- An operand of a line: a number, or a name bound by an earlier line (R41). -/
inductive Arg where
  | num (n : Nat)
  | name (x : Ident)
  deriving DecidableEq, Repr

/-- A written line; `outs` are the names on the right of `->` (R41). -/
inductive Line where
  | pack (addr data cmd : Arg) (outs : List Ident)
  | crc3 (frame : Arg) (outs : List Ident)
  | check (addr data cmd exp : Arg) (outs : List Ident)
  | sealFrame (frame : Arg) (outs : List Ident)
  | verify (table : Ident)
  deriving DecidableEq, Repr

/-- The values names are bound to, the latest first. -/
abbrev Env := List (Ident × Nat)

/-- The tables `VERIFY table` may name (R42). -/
abbrev Tables := List (Ident × List TestVector)

/-- The value of an operand; none for a name that nothing has bound. -/
def Arg.value (env : Env) : Arg → Option Nat
  | .num n => some n
  | .name x => env.lookup x

/-- An `addr`, `data`, `frame` or `exp` operand: a number below 2^32 (R41). -/
def asWord (n : Nat) : Option Word := if n < 2 ^ 32 then some (BitVec.ofNat 32 n) else none

/-- A `cmd` operand: `0` or `1` (R41); a wider value cannot be presented (U12). -/
def asBit (n : Nat) : Option Bool := if n = 0 then some false else if n = 1 then some true else none

/-- The value of a 32-bit operand. -/
def Arg.word (env : Env) (a : Arg) : Option Word := (a.value env).bind asWord

/-- The value of a 1-bit operand. -/
def Arg.bit (env : Env) (a : Arg) : Option Bool := (a.value env).bind asBit

/-- "A TestVector maps to one CHECK request: `req_cmd` = command, `req_addr` = address, `req_data` =
data, `req_exp` = expectedCrc" (R43). -/
def checkOf (v : TestVector) : Instr := .check v.address v.data v.command v.expectedCrc

/-- The operations a line stands for: one, or for `VERIFY table` one CHECK per row of the table, in order
(R42). None for a line with an operand that is out of range or not bound. -/
def Line.expand (tables : Tables) (env : Env) : Line → Option (List Instr)
  | .pack a d c _ => do
    let a ← a.word env
    let d ← d.word env
    let c ← c.bit env
    pure [.pack a d c]
  | .crc3 f _ => do
    let f ← f.word env
    pure [.crc3 f]
  | .check a d c e _ => do
    let a ← a.word env
    let d ← d.word env
    let c ← c.bit env
    let e ← e.word env
    pure [.check a d c e]
  | .sealFrame f _ => do
    let f ← f.word env
    pure [.sealFrame f]
  | .verify t => (tables.lookup t).map (List.map checkOf)

/-- The response fields a line may bind, in R41's order: PACK frame; CRC3 crc; CHECK frame, crc, pass;
SEAL frame, crc. -/
def Line.results (r : Response) : Line → List Nat
  | .pack _ _ _ _ => [r.frame.toNat]
  | .crc3 _ _ => [r.crc.toNat]
  | .check _ _ _ _ _ => [r.frame.toNat, r.crc.toNat, r.pass.toNat]
  | .sealFrame _ _ => [r.frame.toNat, r.crc.toNat]
  | .verify _ => []

/-- The names on the right of a line's `->`. -/
def Line.outs : Line → List Ident
  | .pack _ _ _ o => o
  | .crc3 _ o => o
  | .check _ _ _ _ o => o
  | .sealFrame _ o => o
  | .verify _ => []

/-! ### Reading a line of text (assumption log 21) -/

/-- Whether a character separates tokens. -/
def isSep (c : Char) : Bool := c == ' ' || c == ','

/-- The tokens of a text: the runs of characters between separators. `acc` holds the token being read,
last character first. -/
def tokensFrom : List Char → List Char → List (List Char)
  | acc, [] => if acc.isEmpty then [] else [acc.reverse]
  | acc, c :: cs =>
    if isSep c then (if acc.isEmpty then tokensFrom [] cs else acc.reverse :: tokensFrom [] cs)
    else tokensFrom (c :: acc) cs

/-- The tokens of a line. -/
def tokens (cs : List Char) : List (List Char) := tokensFrom [] cs

/-- The value of a hexadecimal digit. -/
def digitValue (c : Char) : Option Nat :=
  let n := c.toNat
  if 48 ≤ n ∧ n ≤ 57 then some (n - 48)
  else if 65 ≤ n ∧ n ≤ 70 then some (n - 55)
  else if 97 ≤ n ∧ n ≤ 102 then some (n - 87)
  else none

/-- Digits in a base, the most significant first. -/
def digitsFrom (base : Nat) : Nat → List Char → Option Nat
  | acc, [] => some acc
  | acc, c :: cs =>
    match digitValue c with
    | some d => if d < base then digitsFrom base (acc * base + d) cs else none
    | none => none

/-- A number: decimal, `0x` hexadecimal or `0b` binary (R41). -/
def readNumber : List Char → Option Nat
  | '0' :: 'x' :: c :: cs => digitsFrom 16 0 (c :: cs)
  | '0' :: 'b' :: c :: cs => digitsFrom 2 0 (c :: cs)
  | c :: cs => digitsFrom 10 0 (c :: cs)
  | [] => none

/-- An operand: a number, or a name. A token that begins with a decimal digit is a number or nothing, and
any other token is a name (DESIGN CHOICE, assumption log 21). -/
def readArg (cs : List Char) : Option Arg :=
  match cs with
  | [] => none
  | c :: _ =>
    if 48 ≤ c.toNat ∧ c.toNat ≤ 57 then (readNumber cs).map .num
    else some (.name cs)

/-- A `cmd` operand: also `false` or `true` (R41). -/
def readCmd (cs : List Char) : Option Arg :=
  if cs = ['f', 'a', 'l', 's', 'e'] then some (.num 0)
  else if cs = ['t', 'r', 'u', 'e'] then some (.num 1)
  else readArg cs

/-- The result part of a line: nothing, or `->` and at most `n` names (R41). Any token is taken as a result
name, also a number or a second `->` (DESIGN CHOICE, assumption log 21). -/
def readOuts (n : Nat) : List (List Char) → Option (List Ident)
  | [] => some []
  | t :: ts => if t = ['-', '>'] ∧ ts ≠ [] ∧ ts.length ≤ n then some ts else none

/-- A line from its tokens (R41, R42). Any token is taken as the name of VERIFY's table, also a number
(DESIGN CHOICE, assumption log 21). -/
def readTokens : List (List Char) → Option Line
  | [] => none
  | op :: ts =>
    if op = ['P', 'A', 'C', 'K'] then
      match ts with
      | a :: d :: c :: rest => do
        pure (.pack (← readArg a) (← readArg d) (← readCmd c) (← readOuts 1 rest))
      | _ => none
    else if op = ['C', 'R', 'C', '3'] then
      match ts with
      | f :: rest => do pure (.crc3 (← readArg f) (← readOuts 1 rest))
      | _ => none
    else if op = ['C', 'H', 'E', 'C', 'K'] then
      match ts with
      | a :: d :: c :: e :: rest => do
        pure (.check (← readArg a) (← readArg d) (← readCmd c) (← readArg e) (← readOuts 3 rest))
      | _ => none
    else if op = ['S', 'E', 'A', 'L'] then
      match ts with
      | f :: rest => do pure (.sealFrame (← readArg f) (← readOuts 2 rest))
      | _ => none
    else if op = ['V', 'E', 'R', 'I', 'F', 'Y'] then
      match ts with
      | [t] => some (.verify t)
      | _ => none
    else none

/-- A line from its text. -/
def readLine (cs : List Char) : Option Line := readTokens (tokens cs)

end Sys2Proof.Written
end

