-- ==== Sys2Proof/Machine/Program.lean ====
section
/-! DEFINITION. Machine/Program.lean: the host at work: a sequence of requests as pins cycle by cycle
(spec `70_reset_and_hazards.md` R114, R117), and written lines run one operation after another at the
transaction level (`30_encoding.md` R41, R42; D1; assumption log 19). -/

namespace Sys2Proof.Machine

/-! ### Requests as pins -/

/-- The cycles of one request of a host that first leaves the idle block alone for `gap` cycles: the gap,
the offer, `LAT(op)` cycles, the response (R117). -/
def cyclesOf (gap : Nat) (r : Request) : Nat := gap + (Config.lat r.op + 2)

/-- The pins of those cycles (assumption log 19). -/
def pinsOf (gap : Nat) (r : Request) : List Pins :=
  List.replicate gap Pins.quiet ++
    (Pins.offer r :: List.replicate (Config.lat r.op + 1) Pins.quiet)

/-- The pins of a host that issues requests one after another, each some number of cycles after the
response of the one before. -/
def schedule (rs : List (Nat × Request)) : List Pins := rs.flatMap fun x => pinsOf x.1 x.2

/-- How many cycles that takes. -/
def scheduleCycles (rs : List (Nat × Request)) : Nat := (rs.map fun x => cyclesOf x.1 x.2).sum

/-- The CHECK requests `VERIFY table` stands for (R42, R43), each with the gap before it. -/
def verifyRequests (rows : List (Nat × TestVector)) : List (Nat × Request) :=
  rows.map fun x => (x.1, requestOf (Written.checkOf x.2))

/-- The Verifier's tally of a table from the responses to its CHECK requests (R82). -/
def tallyFrom (table : List TestVector) (responses : List Response) : Tally :=
  (table.zip responses).foldl (fun t vr => t.add vr.1 vr.2) Tally.empty

/-! ### Written lines at the transaction level -/

/-- One operation from an idle block: accept, answer (D1). -/
def operate (i : Instr) (s : State) : Host.Outcome State Fault Refusal :=
  exec i (s.accept (requestOf i))

/-- A host that runs written lines: its names, the tallies of its VERIFY lines, and the block. -/
structure Session where
  env     : Written.Env
  tallies : List Tally
  block   : State
  deriving DecidableEq, Repr

/-- The Verifier's loop over a table, each vector a CHECK of the block (R82). -/
def Session.verifyLoop : List TestVector → Tally → State →
    Host.Outcome (Tally × State) Fault Refusal
  | [], t, s => .next (t, s)
  | v :: vs, t, s =>
    match operate (Written.checkOf v) s with
    | .next s' => Session.verifyLoop vs (t.add v s'.rsp) s'.endResponse
    | .fault r => .fault r
    | .refused r => .refused r

/-- Run one written line; none for a line that is not well-formed (R41). -/
def Session.run (tables : Written.Tables) (l : Written.Line) (c : Session) :
    Option (Host.Outcome Session Fault Refusal) :=
  match l with
  | .verify t =>
    (tables.lookup t).map fun table =>
      match Session.verifyLoop table Tally.empty c.block with
      | .next (tally, s) => .next { c with tallies := c.tallies ++ [tally], block := s }
      | .fault r => .fault r
      | .refused r => .refused r
  | _ =>
    match l.expand tables c.env with
    | some [i] =>
      some (match operate i c.block with
        | .next s =>
          .next { c with env := l.outs.zip (l.results s.rsp) ++ c.env, block := s.endResponse }
        | .fault r => .fault r
        | .refused r => .refused r)
    | _ => none

end Sys2Proof.Machine
end

