-- ==== Sys2Proof/Safety.lean ====
section
/-! DEFINITION. Safety.lean: what claims are stated in: the response a request is owed (spec
`30_encoding.md` R38), the states a run can reach, and what an observer of the ports sees over a run (R9
"the sequence of (request, response) pairs", `70_reset_and_hazards.md` R118). -/

namespace Sys2Proof.Machine

/-- The response an operation is owed: R38's table over the values of R50, R70, R80, R81. -/
def responseTo : Instr → Response
  | .pack a d c => { frame := pack a d c, crc := 0, pass := false }
  | .crc3 f => { frame := 0, crc := crc3 f, pass := false }
  | .check a d c e =>
    { frame := pack a d c
      crc := crc3 (frameToPort (pack a d c))
      pass := passFlag (crc3 (frameToPort (pack a d c))) e }
  | .sealFrame f => { frame := sealFrame f, crc := crc3 f, pass := false }

/-- The response a request is owed. -/
def respond (r : Request) : Response := responseTo (decode r)

/-- What holds of the block's registers between edges: a response is presented only while busy (R114,
R116), and then it is the one owed to the latched request (R118); an operation in flight still has an
edge to wait for (R117). -/
def State.Sound (s : State) : Prop :=
  (s.rspValid = true → s.busy = true ∧ s.rsp = respond s.latch) ∧
  (s.busy = true → s.rspValid = false → 0 < s.wait)

/-- The block is idle: it holds nothing of an operation (R10). -/
def State.Idle (s : State) : Prop := s.busy = false ∧ s.rspValid = false

/-- No reset is asserted in the coming `n` cycles. -/
def State.NoReset (n : Nat) (s : State) : Prop := ∀ k, k < n → (s.pinsAt k).rst = false

/-! ### What is observed over `n` cycles -/

/-- The request accepted at the edge that ends this cycle, if one is (R114). -/
def State.acceptedNow (s : State) : List Request := if s.accepts then [s.pins.req] else []

/-- How the request in flight ends in this cycle, if it does: with its response, or abandoned by a reset
without one (R112, R116, R118). -/
def State.resolvedNow (s : State) : List (Request × Option Response) :=
  if s.busy then
    if s.pins.rst then [(s.latch, none)]
    else if s.rspValid then [(s.latch, some s.rsp)]
    else []
  else []

/-- The request in flight (R18, R114: at most one). -/
def State.inFlight (s : State) : List Request := if s.busy then [s.latch] else []

/-- The responses presented on the port in this cycle (R38, R112, R116). -/
def State.presentedNow (s : State) : List Response := if s.presents then [s.rsp] else []

/-- What a per-cycle observation collects over `n` cycles. -/
def observe {α : Type} (look : State → List α) : Nat → State → List α
  | 0, _ => []
  | n + 1, s =>
    look s ++
      match step s with
      | .next t => observe look n t
      | .fault _ => []
      | .refused _ => []

/-- The requests accepted in the coming `n` cycles, in order. -/
def accepted (n : Nat) (s : State) : List Request := observe State.acceptedNow n s

/-- The requests ended in the coming `n` cycles, in order, each with its response or abandoned. -/
def resolved (n : Nat) (s : State) : List (Request × Option Response) :=
  observe State.resolvedNow n s

/-- The responses presented in the coming `n` cycles, in order. -/
def presented (n : Nat) (s : State) : List Response := observe State.presentedNow n s

/-- The host's duty over the coming `n` cycles: a request offered and not accepted, be it that the block
is busy or that `rst` is 1, is offered again in the next cycle (R114, R118). Its operands may change
meanwhile (R115). -/
def HostKeepsOffer : Nat → State → Prop
  | 0, _ => True
  | n + 1, s =>
    (s.pins.reqValid = true → s.accepts = false → (s.pinsAt 1).reqValid = true) ∧
    ∀ t, step s = .next t → HostKeepsOffer n t

/-! ### Runs without end (R118)

A host that goes on for ever is a function from the number of the cycle to the pins; each cycle of its run
is one `step`. -/

/-- The state with this cycle's pins known to be `p`. -/
def State.under (p : Pins) (s : State) : State := { s with inputs := [p] }

/-- The state in cycle `n` of the run of `s` under a host. -/
def runUnder (host : Nat → Pins) (s : State) : Nat → State
  | 0 => s.under (host 0)
  | n + 1 =>
    match step (runUnder host s n) with
    | .next t => t.under (host (n + 1))
    | .fault _ => runUnder host s n
    | .refused _ => runUnder host s n

/-- The host's duty for ever: a request offered and not accepted is offered again in the next cycle (R114,
R118). -/
def HostAlwaysKeepsOffer (host : Nat → Pins) (s : State) : Prop :=
  ∀ n, (host n).reqValid = true → (runUnder host s n).accepts = false →
    (host (n + 1)).reqValid = true

/-! ### The checksum as a polynomial remainder (R61) -/

/-- One step of long division by `x^3 + x + 1` (`0b1011`) over GF(2): clear the coefficient of `x^i`. -/
def divideStep (m : BitVec 24) (i : Nat) : BitVec 24 :=
  if bitOf m i then m ^^^ (0b1011#24 <<< (i - 3)) else m

/-- The remainder of a polynomial of degree at most 23 modulo `x^3 + x + 1`. -/
def polyRem (m : BitVec 24) : Crc := (windowBits.foldl divideStep m).setWidth 3

/-- `M * x^3 + 0b100 * x^21`, with `M` the window (R61). -/
def crcPolynomial (f : Word) : BitVec 24 := ((window f).setWidth 24 <<< 3) ^^^ (0b100#24 <<< 21)

end Sys2Proof.Machine
end

