-- ==== Sys2Proof/WellFormed.lean ====
section
/-! DEFINITION. WellFormed.lean: the checks of the spec that a term can fail: a well-formed Frame (spec
`30_encoding.md` R32), the ranges a TestVector is expected to keep to (R43), a written line (R41).
An operation itself has no ill-formed term: every operand value on every port is legal (R40, R102). -/

namespace Sys2Proof

/-- No operation and no operand value is illegal (R40): the check of an operation refuses nothing. -/
def Instr.wf : Instr → Bool
  | .pack _ _ _ => true
  | .crc3 _ => true
  | .check _ _ _ _ => true
  | .sealFrame _ => true

/-- A value is a well-formed Frame when it has nothing above bit 23 and its reserved bits [7:3] are 0
(R32). The block does not check it (R32, D21). -/
def wellFormedFrame (f : Word) : Bool :=
  decide (f.toNat < 2 ^ 24) && Machine.fieldRsvd f == 0

/-- The ranges of R43: address 0–127, data 0–255, expectedCrc 0–7. The block does not enforce them. -/
def TestVector.inRange (v : TestVector) : Bool :=
  decide (v.address.toNat ≤ 127) && decide (v.data.toNat ≤ 255) && decide (v.expectedCrc.toNat ≤ 7)

/-- A written line is well-formed when it stands for operations: each number in range, each name bound
(R41). -/
def Written.Line.wf (tables : Written.Tables) (env : Written.Env) (l : Written.Line) : Bool :=
  (l.expand tables env).isSome

end Sys2Proof
end

