-- ==== Sys2Proof/Certificates/Slice0/Obligations.lean ====
section
/-! DEFINITION. Obligations.lean: the statements for the provers. Each docstring names the rule of the
spec it formalises, or says that it is derived and from what. -/

open Sys2Proof Sys2Proof.Machine

/-! ### The LFSR and the checksum -/

/-- R53: all three new bits come from the old register: bit 2 is old bit 1, bit 1 is old bit 0 xor `fb`,
bit 0 is `fb`, with `fb = in ^ r[2]`. -/
def Obligations.LfsrStepComputesNewBitsFromOld : Prop :=
  ∀ (r : Crc) (input : Bool),
    bitOf (lfsrStep r input) 2 = bitOf r 1 ∧
    bitOf (lfsrStep r input) 1 = (bitOf r 0 ^^ (input ^^ bitOf r 2)) ∧
    bitOf (lfsrStep r input) 0 = (input ^^ bitOf r 2)

/-- Derived (R60, which the spec marks as derived): the shift-and-xor form, bijectivity for each input
bit, and the zero-input cycle 1, 2, 4, 3, 6, 7, 5 with its fixed point 0. -/
def Obligations.LfsrStepShiftXorForm : Prop :=
  (∀ (r : Crc) (input : Bool),
    lfsrStep r input =
      ((r <<< 1) &&& 0b111#3) ^^^ (if (input ^^ bitOf r 2) = true then 0b011#3 else 0b000#3)) ∧
  (∀ input : Bool, Function.Bijective fun r : Crc => lfsrStep r input) ∧
  (∀ r : Crc, (fun r : Crc => lfsrStep r false)^[7] r = r) ∧
  [1#3, 2#3, 4#3, 3#3, 6#3, 7#3, 5#3, 0#3].map (fun r => lfsrStep r false) =
    [2#3, 4#3, 3#3, 6#3, 7#3, 5#3, 1#3, 0#3]

/-- Derived (R51 and the vectors of source §8): the start value is the literal 4, it reproduces the four
known vectors, and `0b101` in its place gives 5, 1, 1, 0. -/
def Obligations.StartValueReproducesKnownVectors : Prop :=
  lfsrInit = 4#3 ∧
  [0x818100#32, 0x820F00#32, 0xA39F00#32, 0x883200#32].map crc3 = [4#3, 0#3, 0#3, 1#3] ∧
  [0x818100#32, 0x820F00#32, 0xA39F00#32, 0x883200#32].map
      (fun f => windowBits.foldl (fun r i => lfsrStep r (bitOf f i)) 0b101#3) =
    [5#3, 1#3, 1#3, 0#3]

/-- Derived (R52, R62): after `n` of the 21 SHIFT micro-steps the register holds the fold over the first
`n` bits from 23 down, and the next bit consumed is 23 - n; after all 21 the result is the checksum, and
nothing but `lfsr` and `idx` has changed. -/
def Obligations.MicroStepsFollowTheFold : Prop :=
  ∀ (f : Word) (s : State) (n : Nat), n ≤ 21 →
    ((s.microInit).microShifts f n).lfsr =
      (List.range n).foldl (fun r k => lfsrStep r (bitOf f (23 - k))) 0b100#3 ∧
    (n < 21 → ((s.microInit).microShifts f n).idx.toNat = 23 - n) ∧
    (s.computeCrc f).crcResult = crc3 f ∧
    s.computeCrc f =
      { s with lfsr := (s.computeCrc f).lfsr, idx := (s.computeCrc f).idx }

/-- R56: replacing bits [2:0] by any value leaves the checksum as it is, and so does clearing them. -/
def Obligations.ChecksumFieldDoesNotMatter : Prop :=
  ∀ (f : Word) (c₁ c₂ : Crc),
    crc3 ((f &&& 0xFFFFFFF8#32) ||| c₁.setWidth 32) =
      crc3 ((f &&& 0xFFFFFFF8#32) ||| c₂.setWidth 32) ∧
    crc3 f = crc3 (f &&& ~~~0x7#32)

/-- R57: bits [31:24] set to any value leave the checksum as it is; with R56, only bits [23:3] matter. -/
def Obligations.BitsAbove23DoNotMatter : Prop :=
  ∀ (f : Word) (u : BitVec 8),
    crc3 (u ++ f.setWidth 24 : BitVec 32) = crc3 f ∧
    crc3 f = crc3 (f &&& 0xFFFFFF#32) ∧
    crc3 f = crc3 (f &&& 0xFFFFF8#32)

/-- Derived (R58, whose exact statement the spec marks as derived): toggling reserved bits changes the
checksum by an amount that does not depend on the Frame, zero for exactly three patterns. -/
def Obligations.ReservedBitsParticipate : Prop :=
  ∃ T : BitVec 5 → Crc,
    (∀ (f : Word) (p : BitVec 5), crc3 (f ^^^ (p.setWidth 32 <<< 3)) = crc3 f ^^^ T p) ∧
    (∀ p : BitVec 5, p ≠ 0 → (T p = 0 ↔ p = 0b01011#5 ∨ p = 0b10110#5 ∨ p = 0b11101#5)) ∧
    T 0b10000#5 = 1 ∧ T 0b01000#5 = 5 ∧ T 0b00100#5 = 7 ∧ T 0b00010#5 = 6 ∧ T 0b00001#5 = 3 ∧
    T 0b11111#5 = 6

/-- Derived (R61): `CRC3(f) = 0b100 ^ L(f)` with `L` linear over exclusive-or, and `L(1 << i)` for i = 23
down to 3 the sequence 4, 2, 1, 5, 7, 6, 3 of period 7. -/
def Obligations.ChecksumIsAffine : Prop :=
  (∀ a b : Word, crc3 (a ^^^ b) ^^^ 0b100#3 = (crc3 a ^^^ 0b100#3) ^^^ (crc3 b ^^^ 0b100#3)) ∧
  crc3 0 = 4 ∧
  windowBits.map (fun i => crc3 (1#32 <<< i) ^^^ 0b100#3) =
    [4, 2, 1, 5, 7, 6, 3, 4, 2, 1, 5, 7, 6, 3, 4, 2, 1, 5, 7, 6, 3]

/-- Derived (R61): the checksum is the remainder of `M * x^3 + 0b100 * x^21` modulo `x^3 + x + 1`, and of
`M * x^3` xor `0b100`, with `M` the window and the remainder by long division. -/
def Obligations.ChecksumIsPolynomialRemainder : Prop :=
  ∀ f : Word,
    crc3 f = polyRem (crcPolynomial f) ∧
    crc3 f = polyRem ((window f).setWidth 24 <<< 3) ^^^ 0b100#3

/-- Derived (R61 and `95_test_vectors.md` section 2.8): flipping any one bit of the window changes the
checksum, so a receiver of a sealed Frame sees it, and flipping one bit of the checksum field is seen
too. -/
def Obligations.SingleBitErrorsAreDetected : Prop :=
  ∀ (f : Word) (i : Nat), i ≤ 23 → crc3 f = fieldCrc f →
    crc3 (f ^^^ BitVec.twoPow 32 i) ≠ fieldCrc (f ^^^ BitVec.twoPow 32 i)

/-! ### The four operations -/

/-- R70: PACK answers the packed, checksum-cleared Frame with crc 0 and pass 0 for any operands, changes
nothing else, and is selected by `0b00`; with the rule's corner cases and worked example. -/
def Obligations.PackAnswersPackedFrame : Prop :=
  (∀ (a d : Word) (c : Bool) (s : State),
    exec (.pack a d c) s =
      .next { s with
        rspValid := true
        rsp :=
          { frame := ((BitVec.ofBool c).setWidth 24 <<< 23) ||| ((a &&& 0x7F#32).setWidth 24 <<< 16) |||
              ((d &&& 0xFF#32).setWidth 24 <<< 8)
            crc := 0
            pass := false } }) ∧
  (∀ r : Request, r.op = 0b00#2 → decode r = .pack r.addr r.data r.cmd) ∧
  pack 0 0 false = 0 ∧ pack 0x7F 0xFF true = 0xFFFF00 ∧ pack 0x80 0x100 false = pack 0 0 false ∧
  pack 0x01 0x81 true = 0x818100

/-- R50: CRC3 answers the checksum (start `0b100`, one LFSR step for each of bits 23 down to 3, masked to
3 bits) with frame 0 and pass 0 for any operand; of the block's registers it writes only `lfsr`, `idx`
and the response; it is selected by `0b01`; with the rule's corner cases and worked example. -/
def Obligations.Crc3AnswersChecksum : Prop :=
  (∀ (f : Word) (s : State), ∃ t,
    exec (.crc3 f) s = .next t ∧
    t.rspValid = true ∧
    t.rsp =
      { frame := 0
        crc := ((List.range 21).foldl (fun r k => lfsrStep r (bitOf f (23 - k))) 0b100#3) &&& 0b111#3
        pass := false } ∧
    t.rsp.crc = crc3 f ∧ t.rsp.crc = t.lfsr &&& 0b111#3 ∧
    t = { s with rspValid := true, rsp := t.rsp, lfsr := t.lfsr, idx := t.idx }) ∧
  (∀ r : Request, r.op = 0b01#2 → decode r = .crc3 r.frame) ∧
  crc3 0 = 4 ∧ (∀ f : Word, f &&& 0xFFFFF8#32 = 0xFFFFF8#32 → crc3 f = 4) ∧ crc3 0x818100 = 4

/-- R80: CHECK answers the packed Frame, its checksum, and whether that equals the expected one masked to
3 bits, for any operands; of the block's registers it writes only `lfsr`, `idx` and the response; it is
selected by `0b10`; with the rule's corner cases and worked example. -/
def Obligations.CheckAnswersComparison : Prop :=
  (∀ (a d : Word) (c : Bool) (e : Word) (s : State), ∃ t,
    exec (.check a d c e) s = .next t ∧
    t.rspValid = true ∧
    t.rsp.frame = pack a d c ∧
    t.rsp.crc = crc3 ((pack a d c).setWidth 32) ∧
    (t.rsp.pass = true ↔ t.rsp.crc.setWidth 32 = e &&& 0b111#32) ∧
    t = { s with rspValid := true, rsp := t.rsp, lfsr := t.lfsr, idx := t.idx }) ∧
  (∀ r : Request, r.op = 0b10#2 → decode r = .check r.addr r.data r.cmd r.exp) ∧
  (∀ (a d : Word) (c : Bool) (e : Word) (s : State),
    exec (.check a d c e) s = exec (.check (a &&& 0x7F#32) (d &&& 0xFF#32) c (e &&& 0b111#32)) s) ∧
  responseTo (.check 0x01 0x81 true 4) = { frame := 0x818100, crc := 4, pass := true } ∧
  (responseTo (.check 0x01 0x81 true 12)).pass = true

/-- R81: SEAL answers the operand's bits [23:3] with its checksum in bits [2:0], and the checksum, with
pass 0, for any operand; of the block's registers it writes only `lfsr`, `idx` and the response; it is
selected by `0b11`; with the worked example. The rule's corner cases, which the spec marks as derived,
are `SealedFramesAreSelfConsistent`. -/
def Obligations.SealAnswersSealedFrame : Prop :=
  (∀ (f : Word) (s : State), ∃ t,
    exec (.sealFrame f) s = .next t ∧
    t.rspValid = true ∧
    t.rsp =
      { frame := ((f &&& 0xFFFFF8#32) ||| (crc3 f).setWidth 32).setWidth 24
        crc := crc3 f
        pass := false } ∧
    t = { s with rspValid := true, rsp := t.rsp, lfsr := t.lfsr, idx := t.idx }) ∧
  (∀ r : Request, r.op = 0b11#2 → decode r = .sealFrame r.frame) ∧
  responseTo (.sealFrame 0x818100) = { frame := 0x818104, crc := 4, pass := false }

/-- Derived (R81's corner cases, R35, R56, R57): a sealed Frame carries its own checksum; its bits [23:3],
the reserved ones among them, are the operand's; the operand's bits [2:0] and [31:24] do not matter;
sealing twice is sealing once. -/
def Obligations.SealedFramesAreSelfConsistent : Prop :=
  ∀ f g : Word,
    crc3 (frameToPort (sealFrame f)) = fieldCrc (frameToPort (sealFrame f)) ∧
    window (frameToPort (sealFrame f)) = window f ∧
    (window f = window g → sealFrame f = sealFrame g) ∧
    sealFrame (frameToPort (sealFrame f)) = sealFrame f

/-- Derived (R23, R38, R100): every operation, whatever the state, answers in full: the response it is
owed, with `rsp_valid`; and it leaves everything else but the Crc3Engine's registers as it is, and PACK
leaves those too (R11). `busy`, `wait`, `inputs`, `hostCycle` and `freeCount` are moved by the clock edge, not by the
operation (the model's choice, assumption log 1, 2, 7, 8). -/
def Obligations.EveryOperationAnswersAndKeepsTheRest : Prop :=
  ∀ (i : Instr) (s : State), ∃ t,
    exec i s = .next t ∧
    t.rspValid = true ∧ t.rsp = responseTo i ∧
    t.busy = s.busy ∧ t.latch = s.latch ∧ t.wait = s.wait ∧ t.inputs = s.inputs ∧
    t.hostCycle = s.hostCycle ∧ t.freeCount = s.freeCount ∧
    (∀ a d c, i = .pack a d c → t.lfsr = s.lfsr ∧ t.idx = s.idx)

/-- Derived (R100, R55, R74, R102): no operation and no clock edge ends in a fault or a refusal, whatever
the state, the operands and the pins. -/
def Obligations.NothingFaultsOrRefuses : Prop :=
  (∀ (i : Instr) (s : State), ∃ t, exec i s = .next t) ∧ ∀ s : State, ∃ t, step s = .next t

/-- R71: an operand counts only by its low 7 or low 8 bits: the bits masked away change neither PACK's
effect nor CHECK's, so no Frame, checksum or flag; with the rule's example. -/
def Obligations.MaskedAwayBitsHaveNoEffect : Prop :=
  (∀ (a a' d d' : Word) (c : Bool), a &&& 0x7F#32 = a' &&& 0x7F#32 → d &&& 0xFF#32 = d' &&& 0xFF#32 →
    pack a d c = pack a' d' c ∧
    (∀ s, exec (.pack a d c) s = exec (.pack a' d' c) s) ∧
    ∀ e s, exec (.check a d c e) s = exec (.check a' d' c e) s) ∧
  (∀ (a d : Word) (c : Bool),
    (fieldAddr (frameToPort (pack a d c))).setWidth 32 = a &&& 0x7F#32 ∧
    (fieldData (frameToPort (pack a d c))).setWidth 32 = d &&& 0xFF#32 ∧
    fieldC (frameToPort (pack a d c)) = BitVec.ofBool c) ∧
  fieldAddr (frameToPort (pack 200 300 true)) = 0x48 ∧
  fieldData (frameToPort (pack 200 300 true)) = 0x2C

/-- R72: bit 23 is the command, bits [22:16] the address, bits [15:8] the data, bits [7:0] zero, nothing
above bit 23; and the three terms are disjoint, so `|` may be read as `^` or as addition. -/
def Obligations.PackPlacesFields : Prop :=
  ∀ (a d : Word) (c : Bool),
    fieldC (frameToPort (pack a d c)) = narrowCmd c ∧
    fieldAddr (frameToPort (pack a d c)) = narrowAddr a ∧
    fieldData (frameToPort (pack a d c)) = narrowData d ∧
    fieldRsvd (frameToPort (pack a d c)) = 0 ∧
    fieldCrc (frameToPort (pack a d c)) = 0 ∧
    (frameToPort (pack a d c)).toNat < 2 ^ 24 ∧
    pack a d c = ((narrowCmd c).setWidth 24 <<< 23) ^^^ ((narrowAddr a).setWidth 24 <<< 16) ^^^
      ((narrowData d).setWidth 24 <<< 8) ∧
    pack a d c = ((narrowCmd c).setWidth 24 <<< 23) + ((narrowAddr a).setWidth 24 <<< 16) +
      ((narrowData d).setWidth 24 <<< 8)

/-- Derived (R73, whose bijection the spec marks as derived): a packed Frame is well-formed with checksum
0, every 24-bit value whose low byte is 0 is a packed Frame, and a packed Frame determines the three
narrowed operands. -/
def Obligations.PackIsABijectionOntoClearedFrames : Prop :=
  (∀ (a d : Word) (c : Bool),
    wellFormedFrame (frameToPort (pack a d c)) = true ∧ pack a d c &&& 0xFF#24 = 0) ∧
  (∀ f : Frame, f &&& 0xFF#24 = 0 → ∃ (a d : Word) (c : Bool), pack a d c = f) ∧
  (∀ (a a' d d' : Word) (c c' : Bool), pack a d c = pack a' d' c' →
    narrowAddr a = narrowAddr a' ∧ narrowData d = narrowData d' ∧ c = c')

/-- Derived (R101): two CHECKs that differ in the expected checksum alone, one passing and one not, give
next states that differ in `rsp_pass` alone: a mismatch changes no state, stops nothing and sets no sticky
bit; and it adds one to the host's count. -/
def Obligations.MismatchIsAResultNotAFault : Prop :=
  ∀ (a d : Word) (c : Bool) (e e' : Word) (s : State), ∃ t t' : State,
    exec (.check a d c e) s = .next t ∧ exec (.check a d c e') s = .next t' ∧
    t' = { t with rsp := { t.rsp with pass := t'.rsp.pass } } ∧
    (e &&& 7#32 = (crc3 ((pack a d c).setWidth 32)).setWidth 32 → t.rsp.pass = true) ∧
    (e &&& 7#32 ≠ (crc3 ((pack a d c).setWidth 32)).setWidth 32 → t.rsp.pass = false) ∧
    ∀ (y : Tally) (v : TestVector),
      (y.add v t.rsp).mismatchCount = y.mismatchCount + (if t.rsp.pass = true then 0 else 1)

/-! ### Requests and their encoding -/

/-- Derived (R31, whose disjointness the spec marks as derived): the five field masks are disjoint and
make up the Frame mask; the window mask is all but the checksum field's. -/
def Obligations.FieldMasksPartitionTheFrame : Prop :=
  [cMask, addrMask, dataMask, rsvdMask, crcMask].Pairwise (fun m n => m &&& n = 0) ∧
  cMask ||| addrMask ||| dataMask ||| rsvdMask ||| crcMask = frameMask ∧
  windowMask = frameMask &&& ~~~crcMask ∧
  ∀ f : Word, (window f).setWidth 32 = (f &&& windowMask) >>> 3

/-- Derived (R36, R37): the codes `0b00`, `0b01`, `0b10`, `0b11` select PACK, CRC3, CHECK and SEAL with
the operand ports each uses, and the ports an operation does not use may hold anything. -/
def Obligations.IgnoredOperandPortsHaveNoEffect : Prop :=
  ∀ r r' : Request, r.op = r'.op →
    (r.op = 0b00#2 → decode r = .pack r.addr r.data r.cmd) ∧
    (r.op = 0b01#2 → decode r = .crc3 r.frame) ∧
    (r.op = 0b10#2 → decode r = .check r.addr r.data r.cmd r.exp) ∧
    (r.op = 0b11#2 → decode r = .sealFrame r.frame) ∧
    (r.op = 0b00#2 → r.addr = r'.addr → r.data = r'.data → r.cmd = r'.cmd → decode r = decode r') ∧
    (r.op = 0b01#2 → r.frame = r'.frame → decode r = decode r') ∧
    (r.op = 0b10#2 → r.addr = r'.addr → r.data = r'.data → r.cmd = r'.cmd → r.exp = r'.exp →
      decode r = decode r') ∧
    (r.op = 0b11#2 → r.frame = r'.frame → decode r = decode r')

/-- Derived (R36, R37; the layout as one number is the model's, assumption log 11): decoding the request
word of any well-formed operation gives it back, with every operand at every value, also through the
opcode table's numbering. -/
def Obligations.DecodeEncodeRoundTrip : Prop :=
  ∀ i : Instr, i.wf = true →
    decodeWord (encode i) = some i ∧ decodeTableWord 131 (encode i).toNat = some i

/-- Derived (R36, R37; layout: assumption log 11): a request word keeps every bit of every port, and every
word is the word of the request read from it. -/
def Obligations.RequestWordKeepsEveryBit : Prop :=
  (∀ r : Request, Request.ofWord r.toWord = r) ∧
  ∀ w : RequestWord, (Request.ofWord w).toWord = w

/-- Derived (R37 and `opcode_table.json`): the table's codes in bits [1:0], and two words with operands
(the operand places: assumption log 11). A sanity statement. -/
def Obligations.WrittenOutWordsDecode : Prop :=
  decodeTableWord 8 0b00 = some (.pack 0 0 false) ∧
  decodeTableWord 8 0b01 = some (.crc3 0) ∧
  decodeTableWord 8 0b10 = some (.check 0 0 false 0) ∧
  decodeTableWord 8 0b11 = some (.sealFrame 0) ∧
  decodeTableWord 131 (0b00 + 1 * 2 ^ 2 + 0x01 * 2 ^ 3 + 0x81 * 2 ^ 35) = some (.pack 0x01 0x81 true) ∧
  decodeTableWord 131 (0b11 + 0x818100 * 2 ^ 67) = some (.sealFrame 0x818100)

/-! ### Reset, the handshake and time -/

/-- R111: at an edge with `rst` = 1, whatever the block was doing, it goes to `busy` = 0 (so `req_ready` =
1), `rsp_valid` = 0, `lfsr` = `0b100`, `idx` = 23. The latches and the response data, which R111 leaves
unspecified, are not spoken of. -/
def Obligations.ResetEdgeGoesToResetState : Prop :=
  ∀ s : State, s.pins.rst = true → ∃ t,
    step s = .next t ∧ t.busy = false ∧ t.reqReady = true ∧ t.rspValid = false ∧
    t.lfsr = 0b100#3 ∧ t.idx = 23#5

/-- Derived (R19): the state after reset is idle and ready, with `rsp_valid` = 0, `lfsr` = `0b100` and
`idx` = 23. -/
def Obligations.ResetStateIsIdle : Prop :=
  State.reset.Idle ∧ State.reset.reqReady = true ∧ State.reset.rspValid = false ∧
  State.reset.lfsr = 0b100#3 ∧ State.reset.idx = 23#5

/-- Derived (R10, R112; how `rst` and a response meet in one cycle is the model's reading, assumption
log 3): an operation in flight at a reset is abandoned: no response in that cycle, none at the edge, and
none later until a new request has been accepted; a request offered in that cycle is not accepted; and
from then on the block accepts and answers as from the state after reset with the same pins to come. -/
def Obligations.ResetAbandonsWithoutResponse : Prop :=
  ∀ s : State, s.pins.rst = true →
    s.presents = false ∧ s.acceptedNow = [] ∧
    ∃ t, step s = .next t ∧ t.Idle ∧ t.inputs = s.inputs.tail ∧
      (∀ n, accepted n t = [] → presented n t = [] ∧ resolved n t = []) ∧
      ∀ n,
        let fresh :=
          { State.reset with inputs := s.inputs.tail, hostCycle := s.hostCycle + 1 }
        accepted n t = accepted n fresh ∧ presented n t = presented n fresh

/-- Derived (R37, R62, R117; that the operation runs whole at this edge is the model's choice, assumption
log 1, and so is that an operation in flight with `wait` = 0, a state no run reaches, answers at the next
edge, assumption log 17): an edge at which a response falls due runs the latched operation: `step` is
`exec` of the decoded latches, on the state with the cycle's pins consumed and the countdown at 0. -/
def Obligations.StepRunsTheLatchedOperation : Prop :=
  ∀ (s : State) (i : Instr), s.pins.rst = false → s.busy = true → s.rspValid = false → s.wait ≤ 1 →
    decode s.latch = i → i.wf = true →
    step s = exec i { s with inputs := s.inputs.tail, hostCycle := s.hostCycle + 1, wait := 0 }

/-- Derived (R114, R117; assumption log 12): a request word put in the latches with its response due runs
at the very next edge, from any state. -/
def Obligations.FetchedWordRunsNext : Prop :=
  ∀ (s : State) (nbits w : Nat) (i : Instr), decodeTableWord nbits w = some i →
    step (s.withFetchWord nbits w) =
      exec i
        { s with
          busy := true, rspValid := false, latch := Request.ofTableWord nbits w, wait := 0
          hostCycle := s.hostCycle + 1 }

/-- Derived (R114, R115, R117; the countdown `wait` is the model's field, assumption log 7): a request is
accepted exactly at an edge with `req_valid` = 1, `busy` = 0 and `rst` = 0, sampling all its operands as
they stand in that cycle; an idle block that accepts nothing stays idle; and a busy block keeps its
operands until its response has been presented. -/
def Obligations.AcceptanceSamplesOperands : Prop :=
  ∀ s : State, s.Sound → s.pins.rst = false → ∃ t,
    step s = .next t ∧ t.inputs = s.inputs.tail ∧
    (s.busy = false → s.pins.reqValid = true →
      t.busy = true ∧ t.latch = s.pins.req ∧ t.wait = Config.lat s.pins.req.op ∧
      (t.rspValid = true ↔ Config.lat s.pins.req.op = 0)) ∧
    (s.busy = false → s.pins.reqValid = false → t.busy = false ∧ t.rspValid = false) ∧
    (s.busy = true → s.rspValid = false →
      t.busy = true ∧ t.latch = s.latch ∧ t.wait = s.wait - 1 ∧ (t.rspValid = true ↔ s.wait = 1))

/-- Derived (R114, R115): while the block is busy, what is offered on the request port has no effect: two
states that differ in this cycle's request only make the same step. That the free latch and response
values after it are the same in both, too, is the model's choice (assumption log 8, 9, 20). -/
def Obligations.OfferWhileBusyHasNoEffect : Prop :=
  ∀ (s : State) (p q : Pins) (rest : List Pins), s.busy = true → p.rst = q.rst →
    step { s with inputs := p :: rest } = step { s with inputs := q :: rest }

/-- Derived (R116; that it holds with `busy` = 0 too, in a state no run reaches, is the model's choice,
assumption log 23): a response lasts one cycle: at the edge that ends it `rsp_valid` and `busy` return to
0, so `req_ready` is 1 from the next cycle on. -/
def Obligations.ResponseLastsOneCycle : Prop :=
  ∀ s : State, s.rspValid = true → ∃ t,
    step s = .next t ∧ t.rspValid = false ∧ t.busy = false ∧ t.reqReady = true

/-- Derived (R19, R114): the state after reset meets the invariant of the handshake. -/
def Obligations.HandshakeSoundAtReset : Prop := State.reset.Sound

/-- Derived (R114, R116, R118; the countdown `wait` is the model's field, assumption log 7): every edge,
whatever the pins, keeps the invariant of the handshake: a response is presented only while busy, and it
is the one owed to the latched request; an operation in flight still has an edge to wait for. -/
def Obligations.HandshakeSoundKeptByEveryStep : Prop :=
  ∀ s t : State, s.Sound → step s = .next t → t.Sound

/-- Derived (R117, R118): from an idle block, an offered request that no reset abandons is answered in
cycle 1 + `LAT(op)` after the accepting edge with the response it is owed, not before, whatever is offered
meanwhile; in the cycle after that the block is idle again. It holds for every `LAT`. -/
def Obligations.AnswerComesAfterLatency : Prop :=
  ∀ (s : State) (r : Request), s.Idle → s.pins.reqValid = true → s.pins.req = r →
    s.NoReset (Config.lat r.op + 2) →
    (∃ t, core.run (1 + Config.lat r.op) s = .next t ∧ t.presents = true ∧ t.rsp = respond r) ∧
    (∀ k, 0 < k → k ≤ Config.lat r.op →
      ∃ u : State, core.run k s = .next u ∧ u.presents = false ∧ u.reqReady = false) ∧
    ∃ u : State, core.run (2 + Config.lat r.op) s = .next u ∧ u.Idle

/-- Derived (R25, R112, R114, R116, R118; how `rst` and a response meet in one cycle is the model's reading,
assumption log 3): over any run, with resets wherever they fall, the requests in
flight at the start and accepted since are, in order, exactly those that have ended and those still in
flight: each accepted request ends once, by one response or by being abandoned. -/
def Obligations.EveryAcceptedRequestEndsOnce : Prop :=
  ∀ (n : Nat) (s t : State), s.Sound → core.run n s = .next t →
    s.inFlight ++ accepted n s = (resolved n s).map Prod.fst ++ t.inFlight ∧
    presented n s = (resolved n s).filterMap Prod.snd

/-- Derived (R25, R118): over any run from a sound state, every response is the function of its own
request, whatever ran before and whatever else the pins did. -/
def Obligations.EveryResponseIsOwedToItsRequest : Prop :=
  ∀ (n : Nat) (s : State), s.Sound →
    ∀ (r : Request) (x : Response), (r, some x) ∈ resolved n s → x = respond r

/-- R10: nothing an operation leaves behind is read by a later one: two idle blocks driven by the same
pins accept, answer and present the same, whatever their registers hold. -/
def Obligations.NothingPersistsBetweenOperations : Prop :=
  ∀ (n : Nat) (s s' : State), s.Idle → s'.Idle → (∀ k, k < n → s.pinsAt k = s'.pinsAt k) →
    accepted n s = accepted n s' ∧ resolved n s = resolved n s' ∧ presented n s = presented n s'

/-- Derived (R112, R114, R117, R118; the countdown `wait` is the model's field, assumption log 7): the block
cannot hang: a host that keeps its offer has it accepted within `wait` + 1 cycles, unless reset
intervenes; and an offer kept through a reset cycle, in which nothing is accepted, then meets a ready
block. -/
def Obligations.KeptOfferIsAccepted : Prop :=
  (∀ s : State, s.Sound → s.pins.reqValid = true → HostKeepsOffer (s.wait + 2) s →
    s.NoReset (s.wait + 2) →
    ∃ (k : Nat) (t : State), k ≤ s.wait + 1 ∧ core.run k s = .next t ∧ t.accepts = true) ∧
  ∀ s : State, s.pins.rst = true → s.pins.reqValid = true → HostKeepsOffer 1 s →
    s.accepts = false ∧
    ∃ t : State, step s = .next t ∧ t.reqReady = true ∧ t.pins.reqValid = true ∧
      (t.accepts = true ↔ t.pins.rst = false)

/-- Derived (R28; instances as a list stepped one at a time is the model's choice, assumption log 20): an
edge of one instance, alone or among others, is that instance's own step and leaves every other instance
as it is, and edges of different instances may be taken in either order. -/
def Obligations.InstancesShareNothing : Prop :=
  (∀ (j : Nat) (b : Bank) (s : State), b[j]? = some s →
    ∃ (t : State) (b₁ : Bank),
      step s = .next t ∧ Bank.stepAt j b = .next b₁ ∧ b₁.length = b.length ∧ b₁[j]? = some t ∧
      ∀ k, k ≠ j → b₁[k]? = b[k]?) ∧
  ∀ (j k : Nat) (b : Bank), j < b.length → k < b.length → j ≠ k →
    ∃ b₁ b₂ b₃ : Bank,
      Bank.stepAt j b = .next b₁ ∧ Bank.stepAt k b = .next b₂ ∧
      Bank.stepAt k b₁ = .next b₃ ∧ Bank.stepAt j b₂ = .next b₃

/-! ### The Verifier -/

/-- R82, R83: VERIFY emits one record per vector, in order, indexed from 0, with the vector's members as
given, the checksum of its packed Frame, and whether that equals the expected one masked to 3 bits;
`totalCount` is the table's length and `mismatchCount` the number of records that do not pass. -/
def Obligations.VerifyRecordsAndCounts : Prop :=
  (∀ table : List TestVector,
    (verify table).totalCount = table.length ∧
    (verify table).records.length = table.length ∧
    (verify table).mismatchCount = (verify table).records.countP (fun r => !r.pass) ∧
    (verify table).mismatchCount ≤ (verify table).totalCount ∧
    ∀ (n : Nat) (v : TestVector), table[n]? = some v →
      ∃ r, (verify table).records[n]? = some r ∧
        r.index = n ∧ r.command = v.command ∧ r.address = v.address ∧ r.data = v.data ∧
        r.expectedCrc = v.expectedCrc ∧
        r.computedCrc = crc3 ((pack v.address v.data v.command).setWidth 32) ∧
        (r.pass = true ↔ r.computedCrc.setWidth 32 = v.expectedCrc &&& 0b111#32)) ∧
  verify [] = { records := [], mismatchCount := 0, totalCount := 0 }

/-- R85: the counts of a table split in two are the sums of the parts' counts, the order of the vectors
does not matter to them, and what a record says of its vector depends on that vector alone. -/
def Obligations.VerifyOrderDoesNotMatter : Prop :=
  (∀ a b : List TestVector,
    (verify (a ++ b)).mismatchCount = (verify a).mismatchCount + (verify b).mismatchCount ∧
    (verify (a ++ b)).totalCount = (verify a).totalCount + (verify b).totalCount) ∧
  (∀ a b : List TestVector, a.Perm b →
    (verify a).mismatchCount = (verify b).mismatchCount ∧
    (verify a).totalCount = (verify b).totalCount) ∧
  ∀ (a b : List TestVector) (m n : Nat) (v : TestVector) (r q : VerifyRecord),
    a[m]? = some v → b[n]? = some v → (verify a).records[m]? = some r →
    (verify b).records[n]? = some q → r.computedCrc = q.computedCrc ∧ r.pass = q.pass

/-- Derived (R86, R87): VERIFY reports success exactly when every row expects, masked to 3 bits, the
checksum of its packed Frame, and then `mismatchCount` is 0; and so it is over the four rows the source
prints. The reference table itself is open: for it, too, success means that. -/
def Obligations.VerifySucceedsOnMatchingTables : Prop :=
  (∀ table : List TestVector,
    ((verify table).mismatchCount = 0 ↔
      ∀ v ∈ table,
        (crc3 ((pack v.address v.data v.command).setWidth 32)).setWidth 32 =
          v.expectedCrc &&& 0b111#32) ∧
    ((verify table).success = true ↔ (verify table).mismatchCount = 0)) ∧
  verifyReference.totalCount = Config.refTable.length ∧
  (verify
      [{ command := true, address := 0x01, data := 0x81, expectedCrc := 4 },
       { command := true, address := 0x02, data := 0x0F, expectedCrc := 0 },
       { command := true, address := 0x23, data := 0x9F, expectedCrc := 0 },
       { command := true, address := 0x08, data := 0x32, expectedCrc := 1 }]).mismatchCount = 0

/-- Derived (R25, R114, R117, R118): a host that issues any requests one after another over the pins of an
idle block, each any number of quiet cycles after the response of the one before, gets their responses in
order, one each. That the host offers each request to an idle block, so for one cycle only, and is quiet
until its response has passed, is the model's choice of schedule (assumption log 19). -/
def Obligations.ScheduledRequestsAreAnsweredInOrder : Prop :=
  ∀ (rs : List (Nat × Request)) (s : State), s.Idle → s.inputs = schedule rs →
    presented (scheduleCycles rs) s = rs.map (fun x => respond x.2) ∧
    accepted (scheduleCycles rs) s = rs.map Prod.snd

/-- Derived (R42, R43, R80, R82): the Verifier run over the pins, one CHECK request per vector, each any
number of quiet cycles after the response of the one before, tallies what VERIFY says. The schedule, one
offer cycle and then quiet until the response has passed, is the model's choice (assumption log 19). -/
def Obligations.VerifyOverThePinsIsVerify : Prop :=
  ∀ (rows : List (Nat × TestVector)) (s : State), s.Idle →
    s.inputs = schedule (verifyRequests rows) →
    tallyFrom (rows.map Prod.snd) (presented (scheduleCycles (verifyRequests rows)) s) =
      verify (rows.map Prod.snd)

/-- Derived (R42, R82): a written line VERIFY, run as CHECK operations of the block, completes and tallies
what VERIFY says. That a line's operations run as acceptance and response in one go, without waiting
cycles, is the model's choice (assumption log 19), and so is that it does so from any state of the block,
a busy one too, where R114 accepts nothing: the meaning of an operation does not look at `busy`
(assumption log 15). -/
def Obligations.WrittenVerifyTalliesTheTable : Prop :=
  ∀ (tables : Written.Tables) (x : Written.Ident) (table : List TestVector) (c : Session),
    tables.lookup x = some table →
    ∃ c' : Session, Session.run tables (.verify x) c = some (.next c') ∧
      c'.tallies = c.tallies ++ [verify table] ∧ c'.env = c.env

/-- Derived (R41): a written line other than VERIFY that stands for an operation runs it to its response and
binds the names on its right to the response's fields in R41's order. Three points are the model's
choice: acceptance and response in one go, without waiting cycles (assumption log 19); from any state of
the block, a busy one too, where R114 accepts nothing (assumption log 15); and fewer names than fields
bind the first fields (assumption log 21). -/
def Obligations.WrittenLineBindsItsResponse : Prop :=
  ∀ (tables : Written.Tables) (l : Written.Line) (c : Session) (i : Instr),
    (∀ t, l ≠ .verify t) → l.expand tables c.env = some [i] →
    ∃ c' : Session, Session.run tables l c = some (.next c') ∧
      c'.env = l.outs.zip (l.results (responseTo i)) ++ c.env ∧ c'.tallies = c.tallies ∧
      c'.block.Idle

/-- Derived (R11, R12, R19; that they hold their value while idle is the model's reading, assumption log
10, and that they stay still in the waiting cycles and change only at the response's edge is its choice,
assumption log 1, which R62's bit-serial form does not share): an edge changes `lfsr` or `idx` only by a
reset or by the computation of an operation whose response it presents, and PACK's edge changes neither.
-/
def Obligations.CrcRegistersChangeOnlyByComputationOrReset : Prop :=
  ∀ s t : State, step s = .next t → t.lfsr ≠ s.lfsr ∨ t.idx ≠ s.idx →
    s.pins.rst = true ∨ (t.rspValid = true ∧ t.busy = true ∧ t.latch.op ≠ 0b00#2)

/-! ### Runs without end -/

/-- Derived (R112, R114, R116, R117, R118): in a run without end, under any host, resets included, every
accepted request ends within 1 + `LAT(op)` cycles, by the response it is owed or abandoned by a reset, and
no other request is accepted until then. -/
def Obligations.EveryAcceptanceInAnEndlessRunEnds : Prop :=
  ∀ (host : Nat → Pins) (s : State) (n : Nat), s.Sound → (runUnder host s n).accepts = true →
    ∃ m, n < m ∧ m ≤ n + 1 + Config.lat (host n).req.op ∧
      ((runUnder host s m).resolvedNow = [((host n).req, some (respond (host n).req))] ∨
        ((runUnder host s m).resolvedNow = [((host n).req, none)] ∧ (host m).rst = true)) ∧
      ∀ k, n < k → k ≤ m → (runUnder host s k).accepts = false

/-- Derived (R114, R116, R117, R118 "a finite or infinite sequence of operations"): a host that goes on for
ever, asserts no reset, offers again and again and keeps each offer until it is accepted, has operations
without end: after every cycle there is another acceptance, and its response is presented. -/
def Obligations.EndlessOffersAreServedWithoutEnd : Prop :=
  ∀ (host : Nat → Pins) (s : State), s.Sound → (∀ n, (host n).rst = false) →
    (∀ n, ∃ m, n ≤ m ∧ (host m).reqValid = true) → HostAlwaysKeepsOffer host s →
    ∀ n, ∃ k m, n ≤ k ∧ k < m ∧
      (runUnder host s k).accepts = true ∧
      (runUnder host s m).presents = true ∧ (runUnder host s m).rsp = respond (host k).req
end

