-- ==== Sys2Proof/Laws/Lfsr.lean ====
section
/-! SUPPORT. Laws/Lfsr.lean: the small lemmas of the LFSR step and the checksum: the step is linear over
exclusive-or, the checksum reads only the window's bits, and the micro-steps compute it. -/

namespace Sys2Proof.Machine

@[simp] theorem crc_mask (r : Crc) : r &&& 0b111#3 = r := by
  revert r; decide

theorem lfsrStep_xor (r q : Crc) (a b : Bool) :
    lfsrStep (r ^^^ q) (a ^^ b) = lfsrStep r a ^^^ lfsrStep q b := by
  revert r q a b; decide

theorem foldl_lfsrStep_xor (f g : Word) (l : List Nat) (r q : Crc) :
    l.foldl (fun x i => lfsrStep x (bitOf (f ^^^ g) i)) (r ^^^ q) =
      l.foldl (fun x i => lfsrStep x (bitOf f i)) r ^^^
        l.foldl (fun x i => lfsrStep x (bitOf g i)) q := by
  induction l generalizing r q with
  | nil => rfl
  | cons i l ih =>
    simp only [List.foldl_cons]
    rw [← ih, ← lfsrStep_xor]
    simp [bitOf]

/-- The checksum reads the window's bits and no others. -/
theorem crc3_congr {f g : Word} (h : ∀ i ∈ windowBits, bitOf f i = bitOf g i) : crc3 f = crc3 g := by
  unfold crc3
  congr 1
  exact List.foldl_ext _ _ _ fun r i hi => by rw [h i hi]

/-- All a computation does: `lfsr` holds the checksum and `idx` is 3. -/
theorem State.computeCrc_eq (f : Word) (s : State) :
    s.computeCrc f = { s with lfsr := crc3 f, idx := 3#5 } := by
  simp [State.computeCrc, State.microShifts, State.microShift, State.microInit, crc3, windowBits]

@[simp] theorem State.computeCrc_lfsr (f : Word) (s : State) : (s.computeCrc f).lfsr = crc3 f := by
  rw [State.computeCrc_eq]

@[simp] theorem State.computeCrc_crcResult (f : Word) (s : State) :
    (s.computeCrc f).crcResult = crc3 f := by
  simp [State.crcResult]

end Sys2Proof.Machine
end

