-- ==== Sys2Proof/Laws/PerInstr.lean ====
section
/-! SUPPORT. Laws/PerInstr.lean: statements made once per constructor of Instr. -/

namespace Sys2Proof.Laws.OpCodeSelects

/-- A request for the operation carries the operation's code (R37), and no operand makes it ill-formed
(R40). -/
def Statement (i : Instr) : Prop := (requestOf i).op = i.opCode ∧ i.wf = true

theorem pack (addr data : Word) (cmd : Bool) : Statement (.pack addr data cmd) := ⟨rfl, rfl⟩

theorem crc3 (frame : Word) : Statement (.crc3 frame) := ⟨rfl, rfl⟩

theorem check (addr data : Word) (cmd : Bool) (exp : Word) : Statement (.check addr data cmd exp) :=
  ⟨rfl, rfl⟩

theorem sealFrame (frame : Word) : Statement (.sealFrame frame) := ⟨rfl, rfl⟩

end Sys2Proof.Laws.OpCodeSelects
end

