-- ==== Sys2Proof/Laws/State.lean ====
section
/-! SUPPORT. Laws/State.lean: what each named update of State does to each field. -/

namespace Sys2Proof.Machine

/-! ### nextPins -/

@[simp] theorem State.nextPins_busy (s : State) :
    (s.nextPins).busy = s.busy := rfl
@[simp] theorem State.nextPins_rspValid (s : State) :
    (s.nextPins).rspValid = s.rspValid := rfl
@[simp] theorem State.nextPins_lfsr (s : State) :
    (s.nextPins).lfsr = s.lfsr := rfl
@[simp] theorem State.nextPins_idx (s : State) :
    (s.nextPins).idx = s.idx := rfl
@[simp] theorem State.nextPins_latch (s : State) :
    (s.nextPins).latch = s.latch := rfl
@[simp] theorem State.nextPins_rsp (s : State) :
    (s.nextPins).rsp = s.rsp := rfl
@[simp] theorem State.nextPins_wait (s : State) :
    (s.nextPins).wait = s.wait := rfl
@[simp] theorem State.nextPins_inputs (s : State) :
    (s.nextPins).inputs = s.inputs.tail := rfl
@[simp] theorem State.nextPins_hostCycle (s : State) :
    (s.nextPins).hostCycle = s.hostCycle + 1 := rfl
@[simp] theorem State.nextPins_freeCount (s : State) :
    (s.nextPins).freeCount = s.freeCount := rfl

/-! ### freeRsp -/

@[simp] theorem State.freeRsp_busy (s : State) :
    (s.freeRsp).busy = s.busy := rfl
@[simp] theorem State.freeRsp_rspValid (s : State) :
    (s.freeRsp).rspValid = false := rfl
@[simp] theorem State.freeRsp_lfsr (s : State) :
    (s.freeRsp).lfsr = s.lfsr := rfl
@[simp] theorem State.freeRsp_idx (s : State) :
    (s.freeRsp).idx = s.idx := rfl
@[simp] theorem State.freeRsp_latch (s : State) :
    (s.freeRsp).latch = s.latch := rfl
@[simp] theorem State.freeRsp_rsp (s : State) :
    (s.freeRsp).rsp = Config.freeResponse s.freeCount := rfl
@[simp] theorem State.freeRsp_wait (s : State) :
    (s.freeRsp).wait = s.wait := rfl
@[simp] theorem State.freeRsp_inputs (s : State) :
    (s.freeRsp).inputs = s.inputs := rfl
@[simp] theorem State.freeRsp_hostCycle (s : State) :
    (s.freeRsp).hostCycle = s.hostCycle := rfl
@[simp] theorem State.freeRsp_freeCount (s : State) :
    (s.freeRsp).freeCount = s.freeCount + 1 := rfl

/-! ### freeLatch -/

@[simp] theorem State.freeLatch_busy (s : State) :
    (s.freeLatch).busy = s.busy := rfl
@[simp] theorem State.freeLatch_rspValid (s : State) :
    (s.freeLatch).rspValid = s.rspValid := rfl
@[simp] theorem State.freeLatch_lfsr (s : State) :
    (s.freeLatch).lfsr = s.lfsr := rfl
@[simp] theorem State.freeLatch_idx (s : State) :
    (s.freeLatch).idx = s.idx := rfl
@[simp] theorem State.freeLatch_latch (s : State) :
    (s.freeLatch).latch = Config.freeRequest s.freeCount := rfl
@[simp] theorem State.freeLatch_rsp (s : State) :
    (s.freeLatch).rsp = s.rsp := rfl
@[simp] theorem State.freeLatch_wait (s : State) :
    (s.freeLatch).wait = s.wait := rfl
@[simp] theorem State.freeLatch_inputs (s : State) :
    (s.freeLatch).inputs = s.inputs := rfl
@[simp] theorem State.freeLatch_hostCycle (s : State) :
    (s.freeLatch).hostCycle = s.hostCycle := rfl
@[simp] theorem State.freeLatch_freeCount (s : State) :
    (s.freeLatch).freeCount = s.freeCount + 1 := rfl

/-! ### resetEdge -/

@[simp] theorem State.resetEdge_busy (s : State) :
    (s.resetEdge).busy = false := rfl
@[simp] theorem State.resetEdge_rspValid (s : State) :
    (s.resetEdge).rspValid = false := rfl
@[simp] theorem State.resetEdge_lfsr (s : State) :
    (s.resetEdge).lfsr = 0b100#3 := rfl
@[simp] theorem State.resetEdge_idx (s : State) :
    (s.resetEdge).idx = 23#5 := rfl
@[simp] theorem State.resetEdge_latch (s : State) :
    (s.resetEdge).latch = Request.zero := rfl
@[simp] theorem State.resetEdge_rsp (s : State) :
    (s.resetEdge).rsp = { frame := 0, crc := 0, pass := false } := rfl
@[simp] theorem State.resetEdge_wait (s : State) :
    (s.resetEdge).wait = 0 := rfl
@[simp] theorem State.resetEdge_inputs (s : State) :
    (s.resetEdge).inputs = s.inputs := rfl
@[simp] theorem State.resetEdge_hostCycle (s : State) :
    (s.resetEdge).hostCycle = s.hostCycle := rfl
@[simp] theorem State.resetEdge_freeCount (s : State) :
    (s.resetEdge).freeCount = s.freeCount := rfl

/-! ### accept -/

@[simp] theorem State.accept_busy (s : State) (r : Request) :
    (s.accept r).busy = true := rfl
@[simp] theorem State.accept_rspValid (s : State) (r : Request) :
    (s.accept r).rspValid = s.rspValid := rfl
@[simp] theorem State.accept_lfsr (s : State) (r : Request) :
    (s.accept r).lfsr = s.lfsr := rfl
@[simp] theorem State.accept_idx (s : State) (r : Request) :
    (s.accept r).idx = s.idx := rfl
@[simp] theorem State.accept_latch (s : State) (r : Request) :
    (s.accept r).latch = r := rfl
@[simp] theorem State.accept_rsp (s : State) (r : Request) :
    (s.accept r).rsp = s.rsp := rfl
@[simp] theorem State.accept_wait (s : State) (r : Request) :
    (s.accept r).wait = Config.lat r.op := rfl
@[simp] theorem State.accept_inputs (s : State) (r : Request) :
    (s.accept r).inputs = s.inputs := rfl
@[simp] theorem State.accept_hostCycle (s : State) (r : Request) :
    (s.accept r).hostCycle = s.hostCycle := rfl
@[simp] theorem State.accept_freeCount (s : State) (r : Request) :
    (s.accept r).freeCount = s.freeCount := rfl

/-! ### countDown -/

@[simp] theorem State.countDown_busy (s : State) :
    (s.countDown).busy = s.busy := rfl
@[simp] theorem State.countDown_rspValid (s : State) :
    (s.countDown).rspValid = s.rspValid := rfl
@[simp] theorem State.countDown_lfsr (s : State) :
    (s.countDown).lfsr = s.lfsr := rfl
@[simp] theorem State.countDown_idx (s : State) :
    (s.countDown).idx = s.idx := rfl
@[simp] theorem State.countDown_latch (s : State) :
    (s.countDown).latch = s.latch := rfl
@[simp] theorem State.countDown_rsp (s : State) :
    (s.countDown).rsp = s.rsp := rfl
@[simp] theorem State.countDown_wait (s : State) :
    (s.countDown).wait = s.wait - 1 := rfl
@[simp] theorem State.countDown_inputs (s : State) :
    (s.countDown).inputs = s.inputs := rfl
@[simp] theorem State.countDown_hostCycle (s : State) :
    (s.countDown).hostCycle = s.hostCycle := rfl
@[simp] theorem State.countDown_freeCount (s : State) :
    (s.countDown).freeCount = s.freeCount := rfl

/-! ### endResponse -/

@[simp] theorem State.endResponse_busy (s : State) :
    (s.endResponse).busy = false := rfl
@[simp] theorem State.endResponse_rspValid (s : State) :
    (s.endResponse).rspValid = false := rfl
@[simp] theorem State.endResponse_lfsr (s : State) :
    (s.endResponse).lfsr = s.lfsr := rfl
@[simp] theorem State.endResponse_idx (s : State) :
    (s.endResponse).idx = s.idx := rfl
@[simp] theorem State.endResponse_latch (s : State) :
    (s.endResponse).latch = Config.freeRequest (s.freeCount + 1) := rfl
@[simp] theorem State.endResponse_rsp (s : State) :
    (s.endResponse).rsp = Config.freeResponse s.freeCount := rfl
@[simp] theorem State.endResponse_wait (s : State) :
    (s.endResponse).wait = s.wait := rfl
@[simp] theorem State.endResponse_inputs (s : State) :
    (s.endResponse).inputs = s.inputs := rfl
@[simp] theorem State.endResponse_hostCycle (s : State) :
    (s.endResponse).hostCycle = s.hostCycle := rfl
@[simp] theorem State.endResponse_freeCount (s : State) :
    (s.endResponse).freeCount = s.freeCount + 2 := rfl

/-! ### idle -/

@[simp] theorem State.idle_busy (s : State) :
    (s.idle).busy = s.busy := rfl
@[simp] theorem State.idle_rspValid (s : State) :
    (s.idle).rspValid = false := rfl
@[simp] theorem State.idle_lfsr (s : State) :
    (s.idle).lfsr = s.lfsr := rfl
@[simp] theorem State.idle_idx (s : State) :
    (s.idle).idx = s.idx := rfl
@[simp] theorem State.idle_latch (s : State) :
    (s.idle).latch = Config.freeRequest (s.freeCount + 1) := rfl
@[simp] theorem State.idle_rsp (s : State) :
    (s.idle).rsp = Config.freeResponse s.freeCount := rfl
@[simp] theorem State.idle_wait (s : State) :
    (s.idle).wait = s.wait := rfl
@[simp] theorem State.idle_inputs (s : State) :
    (s.idle).inputs = s.inputs := rfl
@[simp] theorem State.idle_hostCycle (s : State) :
    (s.idle).hostCycle = s.hostCycle := rfl
@[simp] theorem State.idle_freeCount (s : State) :
    (s.idle).freeCount = s.freeCount + 2 := rfl

/-! ### presentResponse -/

@[simp] theorem State.presentResponse_busy (s : State) (f : Frame) (k : Crc) (p : Bool) :
    (s.presentResponse f k p).busy = s.busy := rfl
@[simp] theorem State.presentResponse_rspValid (s : State) (f : Frame) (k : Crc) (p : Bool) :
    (s.presentResponse f k p).rspValid = true := rfl
@[simp] theorem State.presentResponse_lfsr (s : State) (f : Frame) (k : Crc) (p : Bool) :
    (s.presentResponse f k p).lfsr = s.lfsr := rfl
@[simp] theorem State.presentResponse_idx (s : State) (f : Frame) (k : Crc) (p : Bool) :
    (s.presentResponse f k p).idx = s.idx := rfl
@[simp] theorem State.presentResponse_latch (s : State) (f : Frame) (k : Crc) (p : Bool) :
    (s.presentResponse f k p).latch = s.latch := rfl
@[simp] theorem State.presentResponse_rsp (s : State) (f : Frame) (k : Crc) (p : Bool) :
    (s.presentResponse f k p).rsp = { frame := f, crc := k, pass := p } := rfl
@[simp] theorem State.presentResponse_wait (s : State) (f : Frame) (k : Crc) (p : Bool) :
    (s.presentResponse f k p).wait = s.wait := rfl
@[simp] theorem State.presentResponse_inputs (s : State) (f : Frame) (k : Crc) (p : Bool) :
    (s.presentResponse f k p).inputs = s.inputs := rfl
@[simp] theorem State.presentResponse_hostCycle (s : State) (f : Frame) (k : Crc) (p : Bool) :
    (s.presentResponse f k p).hostCycle = s.hostCycle := rfl
@[simp] theorem State.presentResponse_freeCount (s : State) (f : Frame) (k : Crc) (p : Bool) :
    (s.presentResponse f k p).freeCount = s.freeCount := rfl

/-! ### under -/

@[simp] theorem State.under_busy (s : State) (q : Pins) :
    (s.under q).busy = s.busy := rfl
@[simp] theorem State.under_rspValid (s : State) (q : Pins) :
    (s.under q).rspValid = s.rspValid := rfl
@[simp] theorem State.under_lfsr (s : State) (q : Pins) :
    (s.under q).lfsr = s.lfsr := rfl
@[simp] theorem State.under_idx (s : State) (q : Pins) :
    (s.under q).idx = s.idx := rfl
@[simp] theorem State.under_latch (s : State) (q : Pins) :
    (s.under q).latch = s.latch := rfl
@[simp] theorem State.under_rsp (s : State) (q : Pins) :
    (s.under q).rsp = s.rsp := rfl
@[simp] theorem State.under_wait (s : State) (q : Pins) :
    (s.under q).wait = s.wait := rfl
@[simp] theorem State.under_inputs (s : State) (q : Pins) :
    (s.under q).inputs = [q] := rfl
@[simp] theorem State.under_hostCycle (s : State) (q : Pins) :
    (s.under q).hostCycle = s.hostCycle := rfl
@[simp] theorem State.under_freeCount (s : State) (q : Pins) :
    (s.under q).freeCount = s.freeCount := rfl

@[simp] theorem State.under_pins (s : State) (q : Pins) : (s.under q).pins = q := rfl

/-! ### Pins -/

/-- A listed cycle's pins are those listed. -/
theorem State.pinsAt_of_listed {s : State} {k : Nat} {p : Pins} (h : s.inputs[k]? = some p) :
    s.pinsAt k = p := by
  simp [State.pinsAt, h]

/-- A cycle's pins after the list's end are the host's free ones. -/
theorem State.pinsAt_of_unlisted {s : State} {k : Nat} (h : s.inputs[k]? = none) :
    s.pinsAt k = Config.hostPins (s.hostCycle + k) := by
  simp [State.pinsAt, h]

/-- With a list that is not empty, its head is this cycle's pins. -/
theorem State.pins_of_cons {s : State} {p : Pins} {rest : List Pins} (h : s.inputs = p :: rest) :
    s.pins = p :=
  State.pinsAt_of_listed (by simp [h])

end Sys2Proof.Machine
end

