-- ==== Sys2Proof/Laws/Step.lean ====
section
/-! SUPPORT. Laws/Step.lean: what an operation and a clock edge can do, said once. -/

namespace Sys2Proof.Machine

/-- All that presenting a response does. -/
theorem State.presentResponse_eq (f : Frame) (k : Crc) (p : Bool) (s : State) :
    s.presentResponse f k p =
      { s with rspValid := true, rsp := { frame := f, crc := k, pass := p } } := rfl

/-- All an operation can do: it presents its response and may have moved `lfsr` and `idx`. -/
theorem exec_shape (i : Instr) (s : State) : ∃ l x,
    exec i s = .next { s with rspValid := true, rsp := responseTo i, lfsr := l, idx := x } := by
  cases i <;>
    simp [exec, execPack, execCrc3, execCheck, execSeal, State.presentResponse_eq, responseTo,
      State.computeCrc_eq, State.crcResult, sealFrame]

/-- What is `k` + 1 cycles away is `k` cycles away after an edge. -/
theorem State.nextPins_pinsAt (s : State) (k : Nat) : s.nextPins.pinsAt k = s.pinsAt (k + 1) := by
  simp [State.pinsAt, State.nextPins, Nat.add_assoc, Nat.add_comm 1 k]

/-- All a clock edge can do: reset; the end of a response; an edge of an operation in flight, with or
without its response; an acceptance, with or without the response; idling. -/
theorem step_cases (s : State) : ∃ t, step s = .next t ∧ (∀ k, t.pinsAt k = s.pinsAt (k + 1)) ∧
    t.inputs = s.inputs.tail ∧
    ((s.pins.rst = true ∧ t = s.nextPins.resetEdge) ∨
     (s.pins.rst = false ∧ s.rspValid = true ∧ t.busy = false ∧ t.rspValid = false) ∨
     (s.pins.rst = false ∧ s.rspValid = false ∧ s.busy = true ∧
       t.busy = true ∧ t.latch = s.latch ∧ t.wait = s.wait - 1 ∧
       ((s.wait ≤ 1 ∧ t.rspValid = true ∧ t.rsp = respond s.latch) ∨
        (1 < s.wait ∧ t.rspValid = false))) ∨
     (s.pins.rst = false ∧ s.rspValid = false ∧ s.busy = false ∧ s.pins.reqValid = true ∧
       t.busy = true ∧ t.latch = s.pins.req ∧ t.wait = Config.lat s.pins.req.op ∧
       ((Config.lat s.pins.req.op = 0 ∧ t.rspValid = true ∧ t.rsp = respond s.pins.req) ∨
        (0 < Config.lat s.pins.req.op ∧ t.rspValid = false))) ∨
     (s.pins.rst = false ∧ s.rspValid = false ∧ s.busy = false ∧ s.pins.reqValid = false ∧
       t.busy = false ∧ t.rspValid = false)) := by
  unfold step
  by_cases h1 : s.pins.rst = true
  · simp only [h1, if_true]
    exact ⟨_, rfl, s.nextPins_pinsAt, rfl, .inl ⟨trivial, rfl⟩⟩
  simp only [Bool.not_eq_true] at h1
  by_cases h2 : s.rspValid = true
  · simp only [h1, State.nextPins_rspValid, h2, if_true]
    exact ⟨_, rfl, s.nextPins_pinsAt, rfl, .inr (.inl ⟨trivial, trivial, rfl, rfl⟩)⟩
  simp only [Bool.not_eq_true] at h2
  by_cases h3 : s.busy = true
  · by_cases h4 : s.wait ≤ 1
    · obtain ⟨l, x, h⟩ := exec_shape (decode s.latch) s.nextPins.countDown
      simp only [h1, State.nextPins_rspValid, h2, State.nextPins_busy, h3, State.nextPins_wait, h4,
        if_true, State.nextPins_latch, Bool.false_eq_true, if_false]
      exact ⟨_, h, s.nextPins_pinsAt, rfl, .inr (.inr (.inl
        ⟨trivial, trivial, trivial, h3, rfl, rfl, .inl ⟨trivial, rfl, rfl⟩⟩))⟩
    · exact ⟨s.nextPins.countDown.freeRsp, by simp [h1, h2, h3, h4], s.nextPins_pinsAt, rfl,
        .inr (.inr (.inl ⟨h1, h2, h3, h3, rfl, rfl, .inr ⟨by omega, rfl⟩⟩))⟩
  simp only [Bool.not_eq_true] at h3
  by_cases h5 : s.pins.reqValid = true
  · by_cases h4 : Config.lat s.pins.req.op = 0
    · obtain ⟨l, x, h⟩ := exec_shape (decode s.pins.req) (s.nextPins.accept s.pins.req)
      refine ⟨_, Eq.trans (by simp [h1, h2, h3, h4, h5]) h, s.nextPins_pinsAt, rfl,
        .inr (.inr (.inr (.inl ⟨h1, h2, h3, h5, rfl, rfl, ?_, .inl ⟨h4, rfl, rfl⟩⟩)))⟩
      simp
    · exact ⟨(s.nextPins.accept s.pins.req).freeRsp, by simp [h1, h2, h3, h4, h5], s.nextPins_pinsAt, rfl,
        .inr (.inr (.inr (.inl ⟨h1, h2, h3, h5, rfl, rfl, rfl, .inr ⟨by omega, rfl⟩⟩)))⟩
  simp only [Bool.not_eq_true] at h5
  exact ⟨s.nextPins.idle, by simp [h1, h2, h3, h5], s.nextPins_pinsAt, rfl,
    .inr (.inr (.inr (.inr ⟨h1, h2, h3, h5, by simp [h3], rfl⟩)))⟩

/-- In every cycle of a run under a host, the pins are the host's. -/
@[simp] theorem runUnder_pins (host : Nat → Pins) (s : State) (n : Nat) :
    (runUnder host s n).pins = host n := by
  cases n with
  | zero => rfl
  | succ n =>
    obtain ⟨t, ht, -⟩ := step_cases (runUnder host s n)
    simp [runUnder, ht]

/-- A run under a host never ends: each of its cycles is one step, with the host's next pins. -/
theorem runUnder_succ (host : Nat → Pins) (s : State) (n : Nat) :
    ∃ t, step (runUnder host s n) = .next t ∧ runUnder host s (n + 1) = t.under (host (n + 1)) := by
  obtain ⟨t, ht, -⟩ := step_cases (runUnder host s n)
  exact ⟨t, ht, by simp [runUnder, ht]⟩

end Sys2Proof.Machine
end

