-- ==== Sys2Proof/Tests/Slice0.lean ====
section
/-! SUPPORT. Tests/Slice0.lean: the smoke test of WellFormed, decoding from words written out, one-step
tests with results from the spec, and for each obligation with hypotheses a state and operands that meet
them. Sources: sections of spec/95_test_vectors.md, named at each test. -/

namespace Sys2Proof.Tests

open Sys2Proof Sys2Proof.Machine

/-! ### WellFormed refuses ill-formed terms -/

theorem test_wf_frame_accepts_sealed : wellFormedFrame 0x818104 = true := by decide
theorem test_wf_frame_refuses_reserved_bit : wellFormedFrame 0x818108 = false := by decide
theorem test_wf_frame_refuses_bit_24 : wellFormedFrame 0x1000000 = false := by decide

theorem test_wf_vector_accepts_K1 :
    TestVector.inRange { command := true, address := 1, data := 0x81, expectedCrc := 4 } = true := by
  decide
theorem test_wf_vector_refuses_address :
    TestVector.inRange { command := true, address := 128, data := 0, expectedCrc := 0 } = false := by
  decide
theorem test_wf_vector_refuses_data :
    TestVector.inRange { command := true, address := 0, data := 256, expectedCrc := 0 } = false := by
  decide
theorem test_wf_vector_refuses_expected :
    TestVector.inRange { command := true, address := 0, data := 0, expectedCrc := 8 } = false := by
  decide

theorem test_wf_line_accepts_pack :
    Written.Line.wf [] [] (.pack (.num 200) (.num 300) (.num 1) []) = true := by decide
theorem test_wf_line_refuses_wide_address :
    Written.Line.wf [] [] (.pack (.num (2 ^ 32)) (.num 0) (.num 0) []) = false := by decide
theorem test_wf_line_refuses_wide_data :
    Written.Line.wf [] [] (.pack (.num 0) (.num (2 ^ 32)) (.num 0) []) = false := by decide
theorem test_wf_line_refuses_wide_command :
    Written.Line.wf [] [] (.pack (.num 0) (.num 0) (.num 2) []) = false := by decide
theorem test_wf_line_refuses_wide_frame :
    Written.Line.wf [] [] (.crc3 (.num (2 ^ 32)) []) = false := by decide
theorem test_wf_line_refuses_wide_expected :
    Written.Line.wf [] [] (.check (.num 0) (.num 0) (.num 0) (.num (2 ^ 32)) []) = false := by decide
theorem test_wf_line_refuses_unbound_name :
    Written.Line.wf [] [] (.sealFrame (.name ['f']) []) = false := by decide
theorem test_wf_line_refuses_unknown_table :
    Written.Line.wf [] [] (.verify ['t']) = false := by decide

/-! ### Decoding: words written out from R36 and R37

Ports from the highest bits down: `req_exp`, `req_frame`, `req_data`, `req_addr`, `req_cmd`, `req_op`. The
values are the encodings of the programs in section 3. -/

/-- P1 line 1: (`0b00`, 1, `0x00000001`, `0x00000081`, -, -). -/
theorem test_decode_pack :
    decodeWord
      (0b00000000000000000000000000000000#32 ++ (0b00000000000000000000000000000000#32 ++
        (0b00000000000000000000000010000001#32 ++ (0b00000000000000000000000000000001#32 ++
          (0b1#1 ++ 0b00#2))))) = some (.pack 0x01 0x81 true) := by decide

/-- P1 line 2: (`0b01`, -, -, -, `0x00818100`, -), with bits set on the ports CRC3 ignores. -/
theorem test_decode_crc3 :
    decodeWord
      (0b10000000000000000000000000000001#32 ++ (0b00000000100000011000000100000000#32 ++
        (0b10000000000000000000000010000001#32 ++ (0b10000000000000000000000000000001#32 ++
          (0b1#1 ++ 0b01#2))))) = some (.crc3 0x00818100) := by decide

/-- P3 line 2: (`0b10`, 1, `0x000000C8`, `0x0000012C`, -, `0x0000000D`), with bits set on `req_frame`. -/
theorem test_decode_check :
    decodeWord
      (0b00000000000000000000000000001101#32 ++ (0b10000000000000000000000000000001#32 ++
        (0b00000000000000000000000100101100#32 ++ (0b00000000000000000000000011001000#32 ++
          (0b1#1 ++ 0b10#2))))) = some (.check 200 300 true 13) := by decide

/-- P4 line 2: (`0b11`, -, -, -, `0x00883200`, -). -/
theorem test_decode_seal :
    decodeWord
      (0b00000000000000000000000000000000#32 ++ (0b00000000100010000011001000000000#32 ++
        (0b00000000000000000000000000000000#32 ++ (0b00000000000000000000000000000000#32 ++
          (0b0#1 ++ 0b11#2))))) = some (.sealFrame 0x00883200) := by decide

/-! ### One operation each, from the state after reset -/

/-- The response an outcome presents, if it is a next state with one. -/
def rspOf : Host.Outcome State Fault Refusal → Option Response
  | .next t => if t.rspValid then some t.rsp else none
  | .fault _ => none
  | .refused _ => none

/-- Section 2.5, the source's masking example. -/
theorem test_pack_masks :
    rspOf (exec (.pack 200 300 true) State.reset) =
      some { frame := 0xC82C00, crc := 0, pass := false } := by decide

/-- Section 2.5: "address bit 7 does not leak into C". -/
theorem test_pack_wraps :
    rspOf (exec (.pack 0x80 0x100 false) State.reset) =
      some { frame := 0x000000, crc := 0, pass := false } := by decide

/-- Section 2.6, K3: the vector that tells the bit order. -/
theorem test_crc3_bit_order :
    rspOf (exec (.crc3 0x00A39F00) State.reset) =
      some { frame := 0, crc := 0, pass := false } := by decide +kernel

/-- Section 2.2: K1 with junk above bit 23 and in the checksum field. -/
theorem test_crc3_window :
    rspOf (exec (.crc3 0xAB818105) State.reset) =
      some { frame := 0, crc := 4, pass := false } := by decide +kernel

/-- Section 2.7: operands masked before the checksum, and the expected one masked. -/
theorem test_check_passes :
    rspOf (exec (.check 200 300 true 13) State.reset) =
      some { frame := 0xC82C00, crc := 5, pass := true } := by decide +kernel

/-- Section 2.7: a mismatch is a result. -/
theorem test_check_mismatch :
    rspOf (exec (.check 0x01 0x81 true 5) State.reset) =
      some { frame := 0x818100, crc := 4, pass := false } := by decide +kernel

/-- Section 2.8: reserved bits kept and checksummed. -/
theorem test_seal_reserved_bits :
    rspOf (exec (.sealFrame 0x008181F8) State.reset) =
      some { frame := 0x8181FA, crc := 2, pass := false } := by decide +kernel

/-- Section 2.8: bits above 23 dropped, the old checksum field discarded. -/
theorem test_seal_drops_and_replaces :
    rspOf (exec (.sealFrame 0xFF818103) State.reset) =
      some { frame := 0x818104, crc := 4, pass := false } := by decide +kernel

/-- Section 2.1, the complete table of `LFSR_STEP`. -/
theorem test_lfsr_table :
    [0#3, 1#3, 2#3, 3#3, 4#3, 5#3, 6#3, 7#3].map (fun r => (lfsrStep r false, lfsrStep r true)) =
      [(0, 3), (2, 1), (4, 7), (6, 5), (3, 0), (1, 2), (7, 4), (5, 6)] := by decide

/-- Section 3, P6: the register after the 8th and the 16th micro-step of K4. -/
theorem test_micro_steps_K4 :
    ((State.reset.microInit).microShifts 0x883200 8).lfsr = 0b101#3 ∧
    ((State.reset.microInit).microShifts 0x883200 16).lfsr = 0b100#3 := by decide

/-! ### The written form (R41, R42) -/

theorem test_read_pack :
    Written.readLine "PACK 0x01, 0x81, true -> f".toList =
      some (.pack (.num 1) (.num 0x81) (.num 1) [['f']]) := by decide

theorem test_read_seal :
    Written.readLine "SEAL f -> s, k".toList =
      some (.sealFrame (.name ['f']) [['s'], ['k']]) := by decide

theorem test_read_check :
    Written.readLine "CHECK 200, 300, 1, 0b1101".toList =
      some (.check (.num 200) (.num 300) (.num 1) (.num 13) []) := by decide

/-- A bound name is a later line's operand: P4 line 2 after line 1. -/
theorem test_expand_uses_binding :
    Written.Line.expand [] [(['f'], 0x883200)] (.sealFrame (.name ['f']) []) =
      some [.sealFrame 0x883200] := by decide

/-! ### The hypotheses of the obligations can be met -/

/-- After reset, with pins to come. -/
def driven (inputs : List Pins) : State := { State.reset with inputs := inputs }

/-- A request in flight, its response due at the next edge. -/
def due (r : Request) (inputs : List Pins) : State :=
  { State.reset with busy := true, latch := r, wait := 1, inputs := inputs }

/-- A request being answered. -/
def answering (r : Request) (inputs : List Pins) : State :=
  { State.reset with busy := true, rspValid := true, latch := r, rsp := respond r, inputs := inputs }

/-- A SEAL request, and a reset cycle. -/
def sealReq : Request := requestOf (.sealFrame 0x818100)
def resetPins : Pins := { Pins.quiet with rst := true }

theorem witness_MicroStepsFollowTheFold : (0 ≤ 21 ∧ 0 < 21) ∧ (20 ≤ 21 ∧ 20 < 21) ∧ 21 ≤ 21 := by
  decide

theorem witness_SingleBitErrorsAreDetected :
    crc3 0x818104 = fieldCrc 0x818104 ∧ 0 ≤ 23 ∧ 2 ≤ 23 ∧ 3 ≤ 23 ∧ 23 ≤ 23 := by decide +kernel

theorem witness_PackAnswersPackedFrame : (requestOf (.pack 1 2 true)).op = 0b00#2 := by decide

theorem witness_Crc3AnswersChecksum :
    (requestOf (.crc3 1)).op = 0b01#2 ∧ 0xFFFFFFFF#32 &&& 0xFFFFF8#32 = 0xFFFFF8#32 := by decide

theorem witness_CheckAnswersComparison : (requestOf (.check 1 2 true 3)).op = 0b10#2 := by decide

theorem witness_SealAnswersSealedFrame : sealReq.op = 0b11#2 := by decide

theorem witness_SealedFramesAreSelfConsistent :
    window 0x818100 = window 0xFF818107 ∧ (0x818100 : Word) ≠ 0xFF818107 := by decide

theorem witness_EveryOperationAnswersAndKeepsTheRest :
    ∃ (i : Instr) (a d : Word) (c : Bool), i = .pack a d c := ⟨_, 1, 2, true, rfl⟩

theorem witness_MaskedAwayBitsHaveNoEffect :
    (200 : Word) &&& 0x7F#32 = (0x48 : Word) &&& 0x7F#32 ∧
    (300 : Word) &&& 0xFF#32 = (0x2C : Word) &&& 0xFF#32 := by decide

theorem witness_PackIsABijectionOntoClearedFrames :
    (0xFFFF00 : Frame) &&& 0xFF#24 = 0 ∧ pack 0x80 0x100 false = pack 0 0 false := by decide

theorem witness_MismatchIsAResultNotAFault :
    (4 : Word) &&& 7#32 = (crc3 ((pack 1 0x81 true).setWidth 32)).setWidth 32 ∧
    (5 : Word) &&& 7#32 ≠ (crc3 ((pack 1 0x81 true).setWidth 32)).setWidth 32 := by decide +kernel

/-- Two requests of each code that differ on a port the operation ignores. -/
theorem witness_IgnoredOperandPortsHaveNoEffect :
    (∃ r r' : Request, r ≠ r' ∧ r.op = r'.op ∧ r.op = 0b00#2 ∧ r.addr = r'.addr ∧ r.data = r'.data ∧
      r.cmd = r'.cmd) ∧
    (∃ r r' : Request, r ≠ r' ∧ r.op = r'.op ∧ r.op = 0b01#2 ∧ r.frame = r'.frame) ∧
    (∃ r r' : Request, r ≠ r' ∧ r.op = r'.op ∧ r.op = 0b10#2 ∧ r.addr = r'.addr ∧ r.data = r'.data ∧
      r.cmd = r'.cmd ∧ r.exp = r'.exp) ∧
    (∃ r r' : Request, r ≠ r' ∧ r.op = r'.op ∧ r.op = 0b11#2 ∧ r.frame = r'.frame) :=
  ⟨⟨{ Request.zero with op := 0b00 }, { Request.zero with op := 0b00, frame := 1 }, by decide⟩,
   ⟨{ Request.zero with op := 0b01 }, { Request.zero with op := 0b01, addr := 1 }, by decide⟩,
   ⟨{ Request.zero with op := 0b10 }, { Request.zero with op := 0b10, frame := 1 }, by decide⟩,
   ⟨{ Request.zero with op := 0b11 }, { Request.zero with op := 0b11, exp := 1 }, by decide⟩⟩

theorem witness_DecodeEncodeRoundTrip : Instr.wf (.check 0xFFFFFFFF 0 true 8) = true := by decide

theorem witness_ResetEdgeGoesToResetState : (due sealReq [resetPins]).pins.rst = true := by decide

theorem witness_ResetAbandonsWithoutResponse :
    (answering sealReq [resetPins]).pins.rst = true ∧ accepted 3 (driven (List.replicate 3 Pins.quiet)) = [] := by decide

theorem witness_StepRunsTheLatchedOperation :
    let s := due sealReq [Pins.offer Request.zero]
    s.pins.rst = false ∧ s.busy = true ∧ s.rspValid = false ∧ s.wait ≤ 1 ∧
      decode s.latch = .sealFrame 0x818100 ∧ Instr.wf (.sealFrame 0x818100) = true := by decide

theorem witness_FetchedWordRunsNext : decodeTableWord 8 0b11 = some (.sealFrame 0) := by decide

/-- The three clauses: a request offered to an idle block, none offered, an operation in flight whose
response is due, and one whose response is not. -/
theorem witness_AcceptanceSamplesOperands :
    ((driven [Pins.offer sealReq]).Sound ∧ (driven [Pins.offer sealReq]).pins.rst = false ∧
      (driven [Pins.offer sealReq]).busy = false ∧ (driven [Pins.offer sealReq]).pins.reqValid = true) ∧
    ((driven [Pins.quiet]).Sound ∧ (driven [Pins.quiet]).pins.rst = false ∧ (driven [Pins.quiet]).busy = false ∧
      (driven [Pins.quiet]).pins.reqValid = false) ∧
    ((due sealReq [Pins.quiet]).Sound ∧ (due sealReq [Pins.quiet]).pins.rst = false ∧ (due sealReq [Pins.quiet]).busy = true ∧
      (due sealReq [Pins.quiet]).rspValid = false) ∧
    State.Sound { due sealReq [Pins.quiet] with wait := 2 } := by
  simp [State.Sound, driven, due, State.reset, State.pins, State.pinsAt, Pins.offer, Pins.quiet]

theorem witness_OfferWhileBusyHasNoEffect :
    (due sealReq [Pins.quiet]).busy = true ∧ (Pins.offer sealReq).rst = Pins.quiet.rst := by decide

theorem witness_ResponseLastsOneCycle : (answering sealReq [Pins.quiet]).rspValid = true := by decide

theorem witness_HandshakeSoundKeptByEveryStep :
    (answering sealReq [Pins.quiet]).Sound ∧ ∃ t, step (answering sealReq [Pins.quiet]) = .next t :=
  ⟨by simp [State.Sound, answering, State.reset], _, rfl⟩

/-- Whatever `LAT` is; its middle clause speaks of the cycles before the response, of which there are
`LAT(op)`, an open number. -/
theorem witness_AnswerComesAfterLatency :
    let s := driven (pinsOf 0 sealReq)
    s.Idle ∧ s.pins.reqValid = true ∧ s.pins.req = sealReq ∧ s.NoReset (Config.lat sealReq.op + 2) := by
  refine ⟨⟨rfl, rfl⟩, rfl, rfl, fun k hk => ?_⟩
  have quiet : ∀ p ∈ pinsOf 0 sealReq, p.rst = false := by
    intro p hp
    rcases List.mem_cons.1 hp with rfl | hp
    · rfl
    · rw [(List.mem_replicate.1 hp).2]; rfl
  have hlen : k < (pinsOf 0 sealReq).length := by simp [pinsOf]; omega
  apply quiet
  simp [State.pinsAt, driven, hlen]

theorem witness_EveryAcceptedRequestEndsOnce :
    (answering sealReq [Pins.quiet]).Sound ∧ ∃ t, core.run 1 (answering sealReq [Pins.quiet]) = .next t :=
  ⟨by simp [State.Sound, answering, State.reset], _, rfl⟩

theorem witness_EveryResponseIsOwedToItsRequest :
    (answering sealReq [Pins.quiet]).Sound ∧ (sealReq, some (respond sealReq)) ∈ resolved 1 (answering sealReq [Pins.quiet]) :=
  ⟨by simp [State.Sound, answering, State.reset],
   by simp [resolved, observe, State.resolvedNow, answering, State.pins, State.pinsAt,
     State.reset, Pins.quiet]⟩

theorem witness_NothingPersistsBetweenOperations :
    let s := driven [Pins.offer sealReq, Pins.quiet]
    let s' := { s with lfsr := 0, idx := 3, latch := sealReq, wait := 9, hostCycle := 5 }
    s.Idle ∧ s'.Idle ∧ ∀ k, k < 2 → s.pinsAt k = s'.pinsAt k :=
  ⟨⟨rfl, rfl⟩, ⟨rfl, rfl⟩, fun k hk => by interval_cases k <;> rfl⟩

/-- A host that offers in every listed cycle keeps its offer. -/
theorem keepsOffer_of_replicate (r : Request) (n : Nat) (s : State)
    (h : s.inputs = List.replicate (n + 1) (Pins.offer r)) : HostKeepsOffer n s := by
  induction n generalizing s with
  | zero => trivial
  | succ n ih =>
    refine ⟨fun _ _ => by simp [State.pinsAt, h, List.replicate_succ, Pins.offer], ?_⟩
    intro t ht
    obtain ⟨u, hu, -, hi, -⟩ := step_cases s
    rw [ht] at hu
    cases hu
    exact ih t (by rw [hi, h]; rfl)

/-- For a busy block, for an idle one, and for an offer kept through a reset cycle. -/
theorem witness_KeptOfferIsAccepted :
    (let s := due sealReq (List.replicate 4 (Pins.offer sealReq))
     s.Sound ∧ s.pins.reqValid = true ∧ HostKeepsOffer (s.wait + 2) s ∧ s.NoReset (s.wait + 2)) ∧
    (let s := driven (List.replicate 3 (Pins.offer sealReq))
     s.Sound ∧ s.pins.reqValid = true ∧ HostKeepsOffer (s.wait + 2) s ∧ s.NoReset (s.wait + 2)) ∧
    (let s := driven [{ Pins.offer sealReq with rst := true }, Pins.offer sealReq]
     s.pins.rst = true ∧ s.pins.reqValid = true ∧ HostKeepsOffer 1 s) := by
  refine ⟨⟨?_, rfl, keepsOffer_of_replicate sealReq _ _ rfl, fun k hk => ?_⟩,
    ⟨?_, rfl, keepsOffer_of_replicate sealReq _ _ rfl, fun k hk => ?_⟩,
    rfl, rfl, fun _ _ => rfl, fun _ _ => trivial⟩
  · simp [State.Sound, due, State.reset]
  · have : k < 3 := hk
    interval_cases k <;> rfl
  · simp [State.Sound, driven, State.reset]
  · have : k < 2 := hk
    interval_cases k <;> rfl

theorem witness_InstancesShareNothing :
    ([State.reset] : Bank)[0]? = some State.reset ∧
    0 < ([State.reset, due sealReq [Pins.quiet]] : Bank).length ∧
    1 < ([State.reset, due sealReq [Pins.quiet]] : Bank).length ∧ 0 ≠ 1 := by decide

/-- K1 and K2 of section 1.2. -/
def vectorK1 : TestVector := { command := true, address := 0x01, data := 0x81, expectedCrc := 4 }
def vectorK2 : TestVector := { command := true, address := 0x02, data := 0x0F, expectedCrc := 0 }

theorem witness_VerifyRecordsAndCounts : [vectorK1, vectorK2][1]? = some vectorK2 := by decide

theorem witness_VerifyOrderDoesNotMatter :
    [vectorK1, vectorK2].Perm [vectorK2, vectorK1] ∧
    [vectorK1, vectorK2][0]? = some vectorK1 ∧ [vectorK2, vectorK1][1]? = some vectorK1 ∧
    (∃ r, (verify [vectorK1, vectorK2]).records[0]? = some r) ∧
    ∃ q, (verify [vectorK2, vectorK1]).records[1]? = some q :=
  ⟨.swap _ _ _, rfl, rfl, ⟨_, rfl⟩, _, rfl⟩

theorem witness_ScheduledRequestsAreAnsweredInOrder :
    (driven (schedule [(0, sealReq), (3, Request.zero)])).Idle ∧
    (driven (schedule [(0, sealReq), (3, Request.zero)])).inputs =
      schedule [(0, sealReq), (3, Request.zero)] :=
  ⟨⟨rfl, rfl⟩, rfl⟩

theorem witness_VerifyOverThePinsIsVerify :
    (driven (schedule (verifyRequests [(2, vectorK1)]))).Idle ∧
    (driven (schedule (verifyRequests [(2, vectorK1)]))).inputs =
      schedule (verifyRequests [(2, vectorK1)]) :=
  ⟨⟨rfl, rfl⟩, rfl⟩

theorem witness_WrittenVerifyTalliesTheTable :
    ([(['t'], [vectorK1, vectorK2])] : Written.Tables).lookup ['t'] = some [vectorK1, vectorK2] := by
  decide

/-- P4 line 2. -/
theorem witness_WrittenLineBindsItsResponse :
    (∀ t, Written.Line.sealFrame (.name ['f']) [['s'], ['k']] ≠ .verify t) ∧
    Written.Line.expand [] [(['f'], 0x883200)] (.sealFrame (.name ['f']) [['s'], ['k']]) =
      some [.sealFrame 0x883200] :=
  ⟨by simp, by decide⟩

/-- By a reset, and by a computation. -/
theorem witness_CrcRegistersChangeOnlyByComputationOrReset :
    (∃ t, step { driven [resetPins] with lfsr := 0 } = .next t ∧ t.lfsr ≠ 0) ∧
    ∃ t, step (due sealReq [Pins.quiet]) = .next t ∧ t.idx ≠ (due sealReq [Pins.quiet]).idx :=
  ⟨⟨_, rfl, by decide⟩, _, rfl, by decide⟩

/-- A host that offers the same request in every cycle. -/
def tireless : Nat → Pins := fun _ => Pins.offer sealReq

theorem witness_EveryAcceptanceInAnEndlessRunEnds :
    State.reset.Sound ∧ (runUnder tireless State.reset 0).accepts = true :=
  ⟨by simp [State.Sound, State.reset], rfl⟩

theorem witness_EndlessOffersAreServedWithoutEnd :
    State.reset.Sound ∧ (∀ n, (tireless n).rst = false) ∧
    (∀ n, ∃ m, n ≤ m ∧ (tireless m).reqValid = true) ∧ HostAlwaysKeepsOffer tireless State.reset :=
  ⟨by simp [State.Sound, State.reset], fun _ => rfl, fun n => ⟨n, Nat.le_refl n, rfl⟩,
   fun _ _ _ => rfl⟩

end Sys2Proof.Tests
end

section
/-! PROOFS. The block's state (spec `10_state.md`): nothing an operation leaves behind is read later, what
a reset abandons, what moves the Crc3Engine's registers, and the state after reset. -/

namespace Sys2Proof.Machine

/-! ### Runs, one cycle at a time -/

theorem observe_succ {α : Type} (look : State → List α) (n : Nat) {s t : State}
    (ht : step s = .next t) : observe look (n + 1) s = look s ++ observe look n t := by
  simp [observe, ht]

/-! ### Two blocks in the same operation -/

/-- The registers that mean something agree: the handshake's, the operand latches and the countdown while
an operation is in flight, the response data while `rsp_valid` is 1. Of the rest, `lfsr` and `idx` among
it, nothing is said. -/
structure State.SameOperation (s s' : State) : Prop where
  busy : s.busy = s'.busy
  rspValid : s.rspValid = s'.rspValid
  latch : s.busy = true → s.latch = s'.latch
  wait : s.busy = true → s.wait = s'.wait
  rsp : s.rspValid = true → s.rsp = s'.rsp

theorem State.SameOperation.of_idle {s s' : State} (h : s.Idle) (h' : s'.Idle) :
    s.SameOperation s' := by
  obtain ⟨hb, hv⟩ := h
  obtain ⟨hb', hv'⟩ := h'
  constructor <;> simp [hb, hv, hb', hv']

/-- `r` is in flight with `k` edges to wait: answered if `due`, not answered yet if `notYet`. The two
conditions are those of a branch of `step_cases`. -/
def State.Carries (s : State) (r : Request) (k : Nat) (due notYet : Prop) : Prop :=
  s.busy = true ∧ s.latch = r ∧ s.wait = k ∧
    ((due ∧ s.rspValid = true ∧ s.rsp = respond r) ∨ (notYet ∧ s.rspValid = false))

theorem State.SameOperation.of_carries {s s' : State} {r : Request} {k : Nat} {due notYet : Prop}
    (h : s.Carries r k due notYet) (h' : s'.Carries r k due notYet) (hd : ¬ (due ∧ notYet)) :
    s.SameOperation s' := by
  obtain ⟨hb, hl, hw, ⟨d, hv, hx⟩ | ⟨d, hv⟩⟩ := h <;>
    obtain ⟨hb', hl', hw', ⟨d', hv', hx'⟩ | ⟨d', hv'⟩⟩ := h'
  · constructor <;> simp [*]
  · exact absurd ⟨d, d'⟩ hd
  · exact absurd ⟨d', d⟩ hd
  · constructor <;> simp [*]

theorem State.SameOperation.acceptedNow_eq {s s' : State} (h : s.SameOperation s')
    (hp : s.pins = s'.pins) : s.acceptedNow = s'.acceptedNow := by
  simp [State.acceptedNow, State.accepts, State.reqReady, hp, h.busy]

theorem State.SameOperation.presentedNow_eq {s s' : State} (h : s.SameOperation s')
    (hp : s.pins = s'.pins) : s.presentedNow = s'.presentedNow := by
  cases hv : s.rspValid
  · simp [State.presentedNow, State.presents, hv, ← h.rspValid]
  · simp [State.presentedNow, State.presents, hv, ← h.rspValid, hp, h.rsp hv]

theorem State.SameOperation.resolvedNow_eq {s s' : State} (h : s.SameOperation s')
    (hp : s.pins = s'.pins) : s.resolvedNow = s'.resolvedNow := by
  cases hb : s.busy
  · simp [State.resolvedNow, hb, ← h.busy]
  cases hv : s.rspValid
  · simp [State.resolvedNow, hb, ← h.busy, hv, ← h.rspValid, hp, h.latch hb]
  · simp [State.resolvedNow, hb, ← h.busy, hv, ← h.rspValid, hp, h.latch hb, h.rsp hv]

/-- The simulation's step: under the same pins, an edge keeps two blocks in the same operation. -/
theorem State.SameOperation.step {s s' t t' : State} (h : s.SameOperation s') (hp : s.pins = s'.pins)
    (ht : step s = .next t) (ht' : step s' = .next t') : t.SameOperation t' := by
  obtain ⟨u, hu, -, -, hc⟩ := step_cases s
  obtain ⟨u', hu', -, -, hc'⟩ := step_cases s'
  cases ht.symm.trans hu
  cases ht'.symm.trans hu'
  rw [← hp, ← h.busy, ← h.rspValid] at hc'
  obtain ⟨hr, rfl⟩ | ⟨hr, hv, hb, hv₁⟩ | ⟨hr, hv, hb, hb₁, hl, hw, hd⟩ |
    ⟨hr, hv, hb, ho, hb₁, hl, hw, hd⟩ | ⟨hr, hv, hb, ho, hb₁, hv₁⟩ := hc
  case inl =>
    obtain rfl : t' = s'.nextPins.resetEdge := by simpa [hr] using hc'
    exact .of_idle ⟨rfl, rfl⟩ ⟨rfl, rfl⟩
  case inr.inl =>
    exact .of_idle ⟨hb, hv₁⟩ (by simpa [State.Idle, hr, hv] using hc')
  case inr.inr.inl =>
    exact .of_carries ⟨hb₁, hl, hw, hd⟩
      (by simpa [State.Carries, hr, hv, hb, ← h.latch hb, ← h.wait hb] using hc') (by omega)
  case inr.inr.inr.inl =>
    exact .of_carries ⟨hb₁, hl, hw, hd⟩
      (by simpa [State.Carries, hr, hv, hb, ho] using hc') (by omega)
  case inr.inr.inr.inr =>
    exact .of_idle ⟨hb₁, hv₁⟩ (by simpa [State.Idle, hr, hv, hb, ho] using hc')

/-- An observation that reads only what `SameOperation` speaks of and the pins collects the same from two
blocks in the same operation, as long as they are driven the same. -/
theorem observe_eq_of_sameOperation {α : Type} {look : State → List α}
    (hlook : ∀ {s s' : State}, s.SameOperation s' → s.pins = s'.pins → look s = look s') {n : Nat}
    {s s' : State} (h : s.SameOperation s') (hp : ∀ k, k < n → s.pinsAt k = s'.pinsAt k) :
    observe look n s = observe look n s' := by
  induction n generalizing s s' with
  | zero => rfl
  | succ n ih =>
    obtain ⟨t, ht, hpt, -⟩ := step_cases s
    obtain ⟨t', ht', hpt', -⟩ := step_cases s'
    have hnow : s.pins = s'.pins := hp 0 n.succ_pos
    have hnext : ∀ k, k < n → t.pinsAt k = t'.pinsAt k := fun k hk => by
      rw [hpt, hpt', hp (k + 1) (by omega)]
    rw [observe_succ look n ht, observe_succ look n ht', hlook h hnow, ih (h.step hnow ht ht') hnext]

/-- Settles O40: idle blocks are in the same operation, none, and every edge keeps them so. -/
theorem nothingPersistsBetweenOperations : Obligations.NothingPersistsBetweenOperations := by
  intro n s s' hs hs' hp
  have h : s.SameOperation s' := .of_idle hs hs'
  exact ⟨observe_eq_of_sameOperation State.SameOperation.acceptedNow_eq h hp,
    observe_eq_of_sameOperation State.SameOperation.resolvedNow_eq h hp,
    observe_eq_of_sameOperation State.SameOperation.presentedNow_eq h hp⟩

/-! ### Reset -/

theorem step_of_rst {s : State} (h : s.pins.rst = true) : step s = .next s.nextPins.resetEdge := by
  simp [step, h]

theorem State.resetEdge_idle (s : State) : s.resetEdge.Idle := ⟨rfl, rfl⟩

theorem State.Idle.presentedNow_eq_nil {s : State} (h : s.Idle) : s.presentedNow = [] := by
  simp [State.presentedNow, State.presents, h.2]

theorem State.Idle.resolvedNow_eq_nil {s : State} (h : s.Idle) : s.resolvedNow = [] := by
  simp [State.resolvedNow, h.1]

/-- An idle block leaves idleness only by accepting a request. -/
theorem State.Idle.step {s t : State} (h : s.Idle) (ha : s.acceptedNow = []) (ht : step s = .next t) :
    t.Idle := by
  obtain ⟨hb, hv⟩ := h
  obtain ⟨u, hu, -, -, hc⟩ := step_cases s
  cases ht.symm.trans hu
  obtain ⟨-, rfl⟩ | ⟨-, hv', -⟩ | ⟨-, -, hb', -⟩ | ⟨hr, -, -, ho, -⟩ | ⟨-, -, -, -, hb₁, hv₁⟩ := hc
  · exact State.resetEdge_idle _
  · simp [hv] at hv'
  · simp [hb] at hb'
  · simp [State.acceptedNow, State.accepts, State.reqReady, hr, hb, ho] at ha
  · exact ⟨hb₁, hv₁⟩

/-- As long as an idle block accepts nothing, it presents nothing and ends nothing. -/
theorem State.Idle.silent {n : Nat} {s : State} (h : s.Idle) (ha : accepted n s = []) :
    presented n s = [] ∧ resolved n s = [] := by
  induction n generalizing s with
  | zero => exact ⟨rfl, rfl⟩
  | succ n ih =>
    obtain ⟨t, ht, -⟩ := step_cases s
    obtain ⟨hnow, hlater⟩ := List.append_eq_nil_iff.1 ((observe_succ _ n ht).symm.trans ha)
    obtain ⟨hp, hr⟩ := ih (h.step hnow ht) hlater
    exact ⟨by simpa [presented, observe_succ _ n ht, h.presentedNow_eq_nil] using hp,
      by simpa [resolved, observe_succ _ n ht, h.resolvedNow_eq_nil] using hr⟩

/-- Settles O29: a reset edge leads to an idle block, so what follows is O40's. -/
theorem resetAbandonsWithoutResponse : Obligations.ResetAbandonsWithoutResponse := by
  intro s hr
  refine ⟨by simp [State.presents, hr], by simp [State.acceptedNow, State.accepts, hr],
    s.nextPins.resetEdge, step_of_rst hr, State.resetEdge_idle _, rfl,
    fun n ha => (State.resetEdge_idle _).silent ha, fun n => ?_⟩
  obtain ⟨hacc, -, hpres⟩ := nothingPersistsBetweenOperations n s.nextPins.resetEdge
    { State.reset with inputs := s.inputs.tail, hostCycle := s.hostCycle + 1 }
    (State.resetEdge_idle _) ⟨rfl, rfl⟩ fun _ _ => rfl
  exact ⟨hacc, hpres⟩

theorem State.reset_idle : State.reset.Idle := ⟨rfl, rfl⟩

/-- Settles O28. -/
theorem resetStateIsIdle : Obligations.ResetStateIsIdle :=
  ⟨State.reset_idle, rfl, rfl, rfl, rfl⟩

/-- An idle block owes the handshake nothing. -/
theorem State.Idle.sound {s : State} (h : s.Idle) : s.Sound := by
  obtain ⟨hb, hv⟩ := h
  constructor <;> simp [hb, hv]

/-- Settles O35: the state after reset is idle. -/
theorem handshakeSoundAtReset : Obligations.HandshakeSoundAtReset := State.reset_idle.sound

/-! ### The Crc3Engine's registers -/

theorem decode_of_op_pack {r : Request} (h : r.op = 0b00#2) :
    decode r = .pack r.addr r.data r.cmd := by
  simp [decode, h]

theorem exec_pack (a d : Word) (c : Bool) (s : State) :
    exec (.pack a d c) s = .next (s.presentResponse (pack a d c) 0 false) := rfl

/-- A PACK request leaves the Crc3Engine's registers as they are (R74). -/
theorem exec_decode_keeps_crc_of_op_pack {r : Request} {s t : State} (hop : r.op = 0b00#2)
    (ht : exec (decode r) s = .next t) : t.lfsr = s.lfsr ∧ t.idx = s.idx := by
  rw [decode_of_op_pack hop, exec_pack] at ht
  cases ht
  exact ⟨rfl, rfl⟩

/-- Where an edge can move `lfsr` or `idx`: at a reset, or where it runs the latched operation. -/
theorem step_crc_cases (s : State) :
    s.pins.rst = true ∨
    (∃ t, step s = .next t ∧ t.lfsr = s.lfsr ∧ t.idx = s.idx) ∨
    ∃ u, step s = exec (decode u.latch) u ∧ u.busy = true ∧ u.lfsr = s.lfsr ∧ u.idx = s.idx := by
  cases hr : s.pins.rst
  case true => exact .inl rfl
  cases hv : s.rspValid
  case true => exact .inr (.inl ⟨s.nextPins.endResponse, by simp [step, hr, hv], rfl, rfl⟩)
  cases hb : s.busy
  case true =>
    by_cases hw : s.wait ≤ 1
    · exact .inr (.inr ⟨s.nextPins.countDown, by simp [step, hr, hv, hb, hw], hb, rfl, rfl⟩)
    · exact .inr (.inl ⟨s.nextPins.countDown.freeRsp, by simp [step, hr, hv, hb, hw], rfl, rfl⟩)
  cases ho : s.pins.reqValid
  case false => exact .inr (.inl ⟨s.nextPins.idle, by simp [step, hr, hv, hb, ho], rfl, rfl⟩)
  by_cases hl : Config.lat s.pins.req.op = 0
  · exact .inr (.inr ⟨s.nextPins.accept s.pins.req, by simp [step, hr, hv, hb, ho, hl], rfl,
      rfl, rfl⟩)
  · exact .inr (.inl ⟨(s.nextPins.accept s.pins.req).freeRsp,
      by simp [step, hr, hv, hb, ho, hl], rfl, rfl⟩)

/-- Settles O50: the edge that moves `lfsr` or `idx` is a reset or runs the latched operation, and that is
not PACK. -/
theorem crcRegistersChangeOnlyByComputationOrReset :
    Obligations.CrcRegistersChangeOnlyByComputationOrReset := by
  intro s t ht hmoved
  obtain hr | ⟨u, hu, hl, hi⟩ | ⟨u, hu, hb, hl, hi⟩ := step_crc_cases s
  · exact .inl hr
  · cases ht.symm.trans hu
    exact absurd hmoved (by simp [hl, hi])
  · right
    rw [hu] at ht
    have hpack : u.latch.op ≠ 0b00#2 := fun hop => by
      obtain ⟨hl', hi'⟩ := exec_decode_keeps_crc_of_op_pack hop ht
      exact absurd hmoved (by simp [hl', hl, hi', hi])
    obtain ⟨l, x, hexec⟩ := exec_shape (decode u.latch) u
    cases ht.symm.trans hexec
    exact ⟨rfl, hb, hpack⟩

end Sys2Proof.Machine
end

section
/-! PROOFS. The block among others and over a run (spec `20_memory.md`): what an operation leaves
unchanged, instances that share nothing, the ledger of accepted and ended requests, and a host that issues
requests one after another. -/

namespace Sys2Proof.Machine

/-! ### What an operation leaves unchanged -/

/-- Settles O16: `exec_shape` names all an operation moves, and PACK only presents its response. -/
theorem everyOperationAnswersAndKeepsTheRest : Obligations.EveryOperationAnswersAndKeepsTheRest := by
  intro i s
  obtain ⟨l, x, h⟩ := exec_shape i s
  refine ⟨_, h, rfl, rfl, rfl, rfl, rfl, rfl, rfl, rfl, ?_⟩
  rintro a d c rfl
  cases (exec_pack a d c s).symm.trans h
  exact ⟨rfl, rfl⟩

/-! ### Instances side by side -/

/-- An edge of the block in place `j` replaces its state, and that alone. -/
theorem Bank.stepAt_eq_set {j : Nat} {b : Bank} {s t : State} (hs : b[j]? = some s)
    (ht : step s = .next t) : Bank.stepAt j b = .next (b.set j t) := by
  induction j generalizing b with
  | zero =>
    cases b with
    | nil => simp at hs
    | cons u rest =>
      obtain rfl : u = s := by simpa using hs
      simp [Bank.stepAt, ht]
  | succ j ih =>
    cases b with
    | nil => simp at hs
    | cons u rest =>
      have hrest : rest[j]? = some s := by simpa using hs
      simp [Bank.stepAt, ih hrest]

/-- Settles O42: edges replace entries of the list, and replacements at different places commute. -/
theorem instancesShareNothing : Obligations.InstancesShareNothing := by
  constructor
  · intro j b s hs
    obtain ⟨t, ht, -⟩ := step_cases s
    obtain ⟨hj, -⟩ := List.getElem?_eq_some_iff.1 hs
    exact ⟨t, b.set j t, ht, Bank.stepAt_eq_set hs ht, List.length_set,
      List.getElem?_set_self hj, fun k hk => List.getElem?_set_ne hk.symm⟩
  · intro j k b hj hk hjk
    obtain ⟨t, ht, -⟩ := step_cases b[j]
    obtain ⟨u, hu, -⟩ := step_cases b[k]
    have hsj : b[j]? = some b[j] := List.getElem?_eq_getElem hj
    have hsk : b[k]? = some b[k] := List.getElem?_eq_getElem hk
    refine ⟨b.set j t, b.set k u, (b.set j t).set k u, Bank.stepAt_eq_set hsj ht,
      Bank.stepAt_eq_set hsk hu, Bank.stepAt_eq_set ?_ hu, ?_⟩
    · rw [List.getElem?_set_ne hjk, hsk]
    · rw [List.set_comm _ _ hjk]
      exact Bank.stepAt_eq_set (by rw [List.getElem?_set_ne hjk.symm, hsj]) ht

/-! ### What a cycle shows -/

theorem State.acceptedNow_of_busy {s : State} (h : s.busy = true) : s.acceptedNow = [] := by
  simp [State.acceptedNow, State.accepts, State.reqReady, h]

theorem State.acceptedNow_of_no_offer {s : State} (h : s.pins.reqValid = false) :
    s.acceptedNow = [] := by
  simp [State.acceptedNow, State.accepts, h]

theorem State.acceptedNow_of_rst {s : State} (h : s.pins.rst = true) : s.acceptedNow = [] := by
  simp [State.acceptedNow, State.accepts, h]

theorem State.acceptedNow_of_offer {s : State} (hr : s.pins.rst = false) (hb : s.busy = false)
    (ho : s.pins.reqValid = true) : s.acceptedNow = [s.pins.req] := by
  simp [State.acceptedNow, State.accepts, State.reqReady, hr, hb, ho]

theorem State.presentedNow_of_not_rspValid {s : State} (h : s.rspValid = false) :
    s.presentedNow = [] := by
  simp [State.presentedNow, State.presents, h]

theorem State.presentedNow_of_rspValid {s : State} (hr : s.pins.rst = false)
    (hv : s.rspValid = true) : s.presentedNow = [s.rsp] := by
  simp [State.presentedNow, State.presents, hr, hv]

theorem State.resolvedNow_of_waiting {s : State} (hr : s.pins.rst = false)
    (hv : s.rspValid = false) : s.resolvedNow = [] := by
  simp [State.resolvedNow, hr, hv]

theorem State.resolvedNow_of_not_busy {s : State} (h : s.busy = false) : s.resolvedNow = [] := by
  simp [State.resolvedNow, h]

theorem State.resolvedNow_of_response {s : State} (hr : s.pins.rst = false) (hb : s.busy = true)
    (hv : s.rspValid = true) : s.resolvedNow = [(s.latch, some s.rsp)] := by
  simp [State.resolvedNow, hr, hb, hv]

/-- A reset ends the request in flight, if there is one, without a response. -/
theorem State.resolvedNow_of_rst {s : State} (h : s.pins.rst = true) :
    s.resolvedNow = s.inFlight.map fun r => (r, none) := by
  cases hb : s.busy <;> simp [State.resolvedNow, State.inFlight, h, hb]

theorem State.inFlight_of_busy {s : State} (h : s.busy = true) : s.inFlight = [s.latch] := by
  simp [State.inFlight, h]

theorem State.inFlight_of_not_busy {s : State} (h : s.busy = false) : s.inFlight = [] := by
  simp [State.inFlight, h]

/-! ### The invariant of the handshake -/

/-- A request in flight that is answered when `due` and has an edge to wait for when `notYet` keeps the
handshake sound. -/
theorem State.Carries.sound {s : State} {r : Request} {k : Nat} {due notYet : Prop}
    (h : s.Carries r k due notYet) (hk : notYet → 0 < k) : s.Sound := by
  obtain ⟨hb, rfl, rfl, ⟨-, hv, hx⟩ | ⟨hn, hv⟩⟩ := h
  · exact ⟨fun _ => ⟨hb, hx⟩, fun _ hv' => by simp [hv] at hv'⟩
  · exact ⟨fun hv' => by simp [hv] at hv', fun _ _ => hk hn⟩

/-- An edge leaves the block idle or with a request in flight, and both are sound. -/
theorem step_sound {s t : State} (ht : step s = .next t) : t.Sound := by
  obtain ⟨u, hu, -, -, hc⟩ := step_cases s
  cases ht.symm.trans hu
  obtain ⟨-, rfl⟩ | ⟨-, -, hb, hv⟩ | ⟨-, -, -, hb, hl, hw, hd⟩ | ⟨-, -, -, -, hb, hl, hw, hd⟩ |
    ⟨-, -, -, -, hb, hv⟩ := hc
  · exact (State.resetEdge_idle _).sound
  · exact State.Idle.sound ⟨hb, hv⟩
  · exact State.Carries.sound ⟨hb, hl, hw, hd⟩ (by omega)
  · exact State.Carries.sound ⟨hb, hl, hw, hd⟩ id
  · exact State.Idle.sound ⟨hb, hv⟩

/-! ### The ledger of requests -/

theorem core_run_succ (n : Nat) {s t : State} (ht : step s = .next t) :
    core.run (n + 1) s = core.run n t := by
  have h : core.step s = .next t := ht
  simp only [Host.Core.run, h]

/-- One edge keeps the ledger: in flight before and accepted now is ended now and in flight after. -/
theorem State.Sound.inFlight_append_acceptedNow {s t : State} (h : s.Sound)
    (ht : step s = .next t) :
    s.inFlight ++ s.acceptedNow = s.resolvedNow.map Prod.fst ++ t.inFlight := by
  obtain ⟨u, hu, -, -, hc⟩ := step_cases s
  cases ht.symm.trans hu
  obtain ⟨hr, rfl⟩ | ⟨hr, hv, hb₁, -⟩ | ⟨hr, hv, hb, hb₁, hl, -⟩ | ⟨hr, -, hb, ho, hb₁, hl, -⟩ |
    ⟨-, -, hb, ho, hb₁, -⟩ := hc
  · simp [State.acceptedNow_of_rst hr, State.resolvedNow_of_rst hr,
      State.inFlight_of_not_busy (State.resetEdge_busy _), Function.comp_def]
  · obtain ⟨hb, -⟩ := h.1 hv
    simp [State.inFlight_of_busy hb, State.acceptedNow_of_busy hb,
      State.resolvedNow_of_response hr hb hv, State.inFlight_of_not_busy hb₁]
  · simp [State.inFlight_of_busy hb, State.acceptedNow_of_busy hb,
      State.resolvedNow_of_waiting hr hv, State.inFlight_of_busy hb₁, hl]
  · simp [State.inFlight_of_not_busy hb, State.acceptedNow_of_offer hr hb ho,
      State.resolvedNow_of_not_busy hb, State.inFlight_of_busy hb₁, hl]
  · simp [State.inFlight_of_not_busy hb, State.acceptedNow_of_no_offer ho,
      State.resolvedNow_of_not_busy hb, State.inFlight_of_not_busy hb₁]

/-- The ledger over a run. -/
theorem State.Sound.inFlight_append_accepted {n : Nat} {s t : State} (h : s.Sound)
    (hrun : core.run n s = .next t) :
    s.inFlight ++ accepted n s = (resolved n s).map Prod.fst ++ t.inFlight := by
  induction n generalizing s with
  | zero =>
    cases hrun
    simp [accepted, resolved, observe]
  | succ n ih =>
    obtain ⟨u, hu, -⟩ := step_cases s
    rw [core_run_succ n hu] at hrun
    calc s.inFlight ++ accepted (n + 1) s
        = (s.inFlight ++ s.acceptedNow) ++ accepted n u := by
          simp [accepted, observe_succ _ n hu]
      _ = s.resolvedNow.map Prod.fst ++ (u.inFlight ++ accepted n u) := by
          rw [h.inFlight_append_acceptedNow hu, List.append_assoc]
      _ = (resolved (n + 1) s).map Prod.fst ++ t.inFlight := by
          rw [ih (step_sound hu) hrun]
          simp [resolved, observe_succ _ n hu]

/-- A cycle presents the response of the request that ends in it, if it ends by one. -/
theorem State.Sound.presentedNow_eq_filterMap {s : State} (h : s.Sound) :
    s.presentedNow = s.resolvedNow.filterMap Prod.snd := by
  cases hv : s.rspValid
  · rw [State.presentedNow_of_not_rspValid hv]
    cases hb : s.busy <;> cases hr : s.pins.rst <;> simp [State.resolvedNow, hb, hr, hv]
  · obtain ⟨hb, -⟩ := h.1 hv
    cases hr : s.pins.rst <;>
      simp [State.presentedNow, State.presents, State.resolvedNow, hb, hr, hv]

theorem State.Sound.presented_eq_filterMap {n : Nat} {s : State} (h : s.Sound) :
    presented n s = (resolved n s).filterMap Prod.snd := by
  induction n generalizing s with
  | zero => rfl
  | succ n ih =>
    obtain ⟨t, ht, -⟩ := step_cases s
    have hlater : presented n t = (resolved n t).filterMap Prod.snd := ih (step_sound ht)
    simp only [presented, resolved, observe_succ _ n ht, List.filterMap_append] at hlater ⊢
    rw [h.presentedNow_eq_filterMap, hlater]

/-- Settles O38: the ledger of one edge, along the run. -/
theorem everyAcceptedRequestEndsOnce : Obligations.EveryAcceptedRequestEndsOnce :=
  fun _ _ _ h hrun => ⟨h.inFlight_append_accepted hrun, h.presented_eq_filterMap⟩

/-! ### Every response is owed -/

/-- What holds of all a sound state shows holds of all that a run from one shows. -/
theorem State.Sound.forall_mem_observe {α : Type} {look : State → List α} {P : α → Prop}
    (hlook : ∀ s : State, s.Sound → ∀ a ∈ look s, P a) {n : Nat} {s : State} (h : s.Sound) :
    ∀ a ∈ observe look n s, P a := by
  induction n generalizing s with
  | zero => simp [observe]
  | succ n ih =>
    obtain ⟨t, ht, -⟩ := step_cases s
    rw [observe_succ look n ht]
    exact List.forall_mem_append.2 ⟨hlook s h, ih (step_sound ht)⟩

/-- The response that ends a request is the one the latched request is owed. -/
theorem State.Sound.resolvedNow_owed {s : State} (h : s.Sound) :
    ∀ e ∈ s.resolvedNow, ∀ x ∈ e.2, x = respond e.1 := by
  cases hr : s.pins.rst
  case true => simp [State.resolvedNow_of_rst hr]
  cases hv : s.rspValid
  case false => simp [State.resolvedNow_of_waiting hr hv]
  obtain ⟨hb, hx⟩ := h.1 hv
  simp [State.resolvedNow_of_response hr hb hv, hx]

/-- Settles O39: it holds of what each cycle ends, as the invariant of the handshake says, and so of what
a run ends. -/
theorem everyResponseIsOwedToItsRequest : Obligations.EveryResponseIsOwedToItsRequest :=
  fun _ _ h r x hx =>
    h.forall_mem_observe (fun _ hs => hs.resolvedNow_owed) (r, some x) hx x rfl

/-! ### Requests issued one after another -/

/-- `n` cycles from `s` lead to `t`, accept the requests `rs` and present the responses `xs`. -/
structure State.RunsTo (s : State) (n : Nat) (rs : List Request) (xs : List Response) (t : State) :
    Prop where
  run : core.run n s = .next t
  accepted : accepted n s = rs
  presented : presented n s = xs

theorem State.RunsTo.refl (s : State) : s.RunsTo 0 [] [] s := ⟨rfl, rfl, rfl⟩

theorem State.RunsTo.of_step {s t : State} (ht : step s = .next t) :
    s.RunsTo 1 s.acceptedNow s.presentedNow t :=
  ⟨core_run_succ 0 ht, (observe_succ _ 0 ht).trans (List.append_nil _),
    (observe_succ _ 0 ht).trans (List.append_nil _)⟩

theorem core_run_add {m n : Nat} {s t : State} (h : core.run m s = .next t) :
    core.run (m + n) s = core.run n t := by
  induction m generalizing s with
  | zero =>
    cases h
    rw [Nat.zero_add]
  | succ m ih =>
    obtain ⟨u, hu, -⟩ := step_cases s
    rw [core_run_succ m hu] at h
    rw [Nat.succ_add, core_run_succ _ hu, ih h]

theorem observe_add {α : Type} (look : State → List α) {m n : Nat} {s t : State}
    (h : core.run m s = .next t) :
    observe look (m + n) s = observe look m s ++ observe look n t := by
  induction m generalizing s with
  | zero =>
    cases h
    simp [observe]
  | succ m ih =>
    obtain ⟨u, hu, -⟩ := step_cases s
    rw [core_run_succ m hu] at h
    rw [Nat.succ_add, observe_succ look _ hu, observe_succ look m hu, ih h, List.append_assoc]

theorem State.RunsTo.trans {s t u : State} {m n : Nat} {rs rs' : List Request}
    {xs xs' : List Response} (h : s.RunsTo m rs xs t) (h' : t.RunsTo n rs' xs' u) :
    s.RunsTo (m + n) (rs ++ rs') (xs ++ xs') u where
  run := (core_run_add h.run).trans h'.run
  accepted := by rw [← h.accepted, ← h'.accepted]; exact observe_add _ h.run
  presented := by rw [← h.presented, ← h'.presented]; exact observe_add _ h.run

/-- `r` is in flight, and its response is presented in `k` cycles: now, if `k` is 0. -/
abbrev State.AnswersIn (s : State) (r : Request) (k : Nat) : Prop := s.Carries r k (k = 0) (0 < k)

/-- An idle block that is offered a request accepts it and answers it in 1 + `LAT(op)` cycles. -/
theorem State.Idle.runsTo_of_offer {s : State} (h : s.Idle) (hr : s.pins.rst = false)
    (ho : s.pins.reqValid = true) :
    ∃ t, s.RunsTo 1 [s.pins.req] [] t ∧ t.inputs = s.inputs.tail ∧
      t.AnswersIn s.pins.req (Config.lat s.pins.req.op) := by
  obtain ⟨hb, hv⟩ := h
  obtain ⟨t, ht, -, hi, hc⟩ := step_cases s
  refine ⟨t, ?_, hi, by simpa [State.Carries, hr, hv, hb, ho] using hc⟩
  have hrun := State.RunsTo.of_step ht
  rwa [State.acceptedNow_of_offer hr hb ho, State.presentedNow_of_not_rspValid hv] at hrun

/-- An idle block that is offered nothing stays idle. -/
theorem State.Idle.runsTo_of_no_offer {s : State} (h : s.Idle) (ho : s.pins.reqValid = false) :
    ∃ t, s.RunsTo 1 [] [] t ∧ t.inputs = s.inputs.tail ∧ t.Idle := by
  obtain ⟨t, ht, -, hi, -⟩ := step_cases s
  have ha := State.acceptedNow_of_no_offer ho
  have hrun := State.RunsTo.of_step ht
  rw [ha, h.presentedNow_eq_nil] at hrun
  exact ⟨t, hrun, hi, h.step ha ht⟩

/-- Without a reset, a response that is not due yet is one cycle nearer after each cycle. -/
theorem State.AnswersIn.runsTo_succ {s : State} {r : Request} {k : Nat} (h : s.AnswersIn r (k + 1))
    (hr : s.pins.rst = false) :
    ∃ t, s.RunsTo 1 [] [] t ∧ t.inputs = s.inputs.tail ∧ t.AnswersIn r k := by
  obtain ⟨hb, rfl, hw, ⟨h0, -⟩ | ⟨-, hv⟩⟩ := h
  · omega
  obtain ⟨t, ht, -, hi, hc⟩ := step_cases s
  have hrun := State.RunsTo.of_step ht
  rw [State.acceptedNow_of_busy hb, State.presentedNow_of_not_rspValid hv] at hrun
  exact ⟨t, hrun, hi, by simpa [State.Carries, hr, hv, hb, hw, Nat.pos_iff_ne_zero] using hc⟩

/-- Without a reset, a response that is due is presented, and then the block is idle. -/
theorem State.AnswersIn.runsTo_zero {s : State} {r : Request} (h : s.AnswersIn r 0)
    (hr : s.pins.rst = false) :
    ∃ t, s.RunsTo 1 [] [respond r] t ∧ t.inputs = s.inputs.tail ∧ t.Idle := by
  obtain ⟨hb, rfl, -, ⟨-, hv, hx⟩ | ⟨h0, -⟩⟩ := h
  case inr => omega
  obtain ⟨t, ht, -, hi, hc⟩ := step_cases s
  have hrun := State.RunsTo.of_step ht
  rw [State.acceptedNow_of_busy hb, State.presentedNow_of_rspValid hr hv, hx] at hrun
  exact ⟨t, hrun, hi, by simpa [State.Idle, hr, hv] using hc⟩

/-- An idle block is left alone for `gap` cycles. -/
theorem State.Idle.runsTo_gap {gap : Nat} {s : State} {rest : List Pins} (h : s.Idle)
    (hs : s.inputs = List.replicate gap Pins.quiet ++ rest) :
    ∃ t, s.RunsTo gap [] [] t ∧ t.inputs = rest ∧ t.Idle := by
  induction gap generalizing s with
  | zero => exact ⟨s, .refl s, hs, h⟩
  | succ gap ih =>
    obtain ⟨t, hst, hi, ht⟩ := h.runsTo_of_no_offer (by rw [State.pins_of_cons hs]; rfl)
    obtain ⟨u, htu, hrest, hu⟩ := ih ht (by rw [hi, hs]; rfl)
    exact ⟨u, Nat.add_comm gap 1 ▸ hst.trans htu, hrest, hu⟩

/-- A host that is quiet until the response has passed gets it. -/
theorem State.AnswersIn.runsTo_response {k : Nat} {s : State} {r : Request} {rest : List Pins}
    (h : s.AnswersIn r k) (hs : s.inputs = List.replicate (k + 1) Pins.quiet ++ rest) :
    ∃ t, s.RunsTo (k + 1) [] [respond r] t ∧ t.inputs = rest ∧ t.Idle := by
  have hr : s.pins.rst = false := by rw [State.pins_of_cons hs]; rfl
  induction k generalizing s with
  | zero =>
    obtain ⟨t, hst, hi, ht⟩ := h.runsTo_zero hr
    exact ⟨t, hst, by rw [hi, hs]; rfl, ht⟩
  | succ k ih =>
    obtain ⟨t, hst, hi, ht⟩ := h.runsTo_succ hr
    have hti : t.inputs = List.replicate (k + 1) Pins.quiet ++ rest := by rw [hi, hs]; rfl
    obtain ⟨u, htu, hrest, hu⟩ := ih ht hti (by rw [State.pins_of_cons hti]; rfl)
    exact ⟨u, Nat.add_comm (k + 1) 1 ▸ hst.trans htu, hrest, hu⟩

/-- One request of the schedule: the gap, the acceptance, the response, and the block is idle again. -/
theorem State.Idle.runsTo_pinsOf {gap : Nat} {r : Request} {s : State} {rest : List Pins}
    (h : s.Idle) (hs : s.inputs = pinsOf gap r ++ rest) :
    ∃ t, s.RunsTo (cyclesOf gap r) [r] [respond r] t ∧ t.inputs = rest ∧ t.Idle := by
  rw [pinsOf, List.append_assoc] at hs
  obtain ⟨t, hst, hti, ht⟩ := h.runsTo_gap hs
  have hp : t.pins = Pins.offer r := State.pins_of_cons hti
  obtain ⟨u, htu, hui, hu⟩ := ht.runsTo_of_offer (by rw [hp]; rfl) (by rw [hp]; rfl)
  rw [hti] at hui
  rw [hp] at htu hu
  obtain ⟨v, huv, hvi, hv⟩ := hu.runsTo_response hui
  refine ⟨v, ?_, hvi, hv⟩
  rw [show cyclesOf gap r = gap + (1 + (Config.lat r.op + 1)) by unfold cyclesOf; omega]
  exact hst.trans (htu.trans huv)

/-- The whole schedule, request by request. -/
theorem State.Idle.runsTo_schedule {rs : List (Nat × Request)} {s : State} (h : s.Idle)
    (hs : s.inputs = schedule rs) :
    ∃ t, s.RunsTo (scheduleCycles rs) (rs.map Prod.snd) (rs.map fun x => respond x.2) t ∧ t.Idle := by
  induction rs generalizing s with
  | nil => exact ⟨s, .refl s, h⟩
  | cons x rs ih =>
    have hfirst : s.inputs = pinsOf x.1 x.2 ++ schedule rs := hs
    obtain ⟨t, hst, hti, ht⟩ := h.runsTo_pinsOf hfirst
    obtain ⟨u, htu, hu⟩ := ih ht hti
    exact ⟨u, hst.trans htu, hu⟩

/-- Settles O46: each request's cycles lead from an idle block to an idle block. -/
theorem scheduledRequestsAreAnsweredInOrder : Obligations.ScheduledRequestsAreAnsweredInOrder := by
  intro rs s h hs
  obtain ⟨t, hrun, -⟩ := h.runsTo_schedule hs
  exact ⟨hrun.presented, hrun.accepted⟩

end Sys2Proof.Machine
end

section
/-! PROOFS. The request port and the Frame (spec `30_encoding.md`): the request word and its decoder, the
Frame's fields and their masks, sealing, and the operations as a host reaches them: latched, over the pins,
and by a written line. -/

namespace Sys2Proof

/-! ### The request word (R36; layout: assumption log 11) -/

/-- Each port is read back from its place, from `req_op` at the low end to `req_exp` at the high end. -/
theorem extractLsb'_append_ports (op : OpCode) (cmd : BitVec 1) (addr data frame exp : Word) :
    let w := exp ++ (frame ++ (data ++ (addr ++ (cmd ++ op))))
    w.extractLsb' 0 2 = op ∧ w.extractLsb' 2 1 = cmd ∧ w.extractLsb' 3 32 = addr ∧
      w.extractLsb' 35 32 = data ∧ w.extractLsb' 67 32 = frame ∧ w.extractLsb' 99 32 = exp := by
  simp [-Nat.reduceAdd, BitVec.extractLsb'_append_eq_of_le, BitVec.extractLsb'_append_eq_of_add_le]

/-- The six places leave no bit of the word out. -/
theorem append_ports_extractLsb' (w : RequestWord) :
    (w.extractLsb' 99 32 ++ (w.extractLsb' 67 32 ++ (w.extractLsb' 35 32 ++
      (w.extractLsb' 3 32 ++ (w.extractLsb' 2 1 ++ w.extractLsb' 0 2))))) = w := by
  simp only [BitVec.extractLsb'_append_extractLsb'_eq_extractLsb']
  exact BitVec.extractLsb'_eq_self

/-- A single bit, read as a `Bool` (assumption log 14) or as a field of width 1. -/
theorem ofBool_getLsbD {n : Nat} (x : BitVec n) (i : Nat) :
    BitVec.ofBool (x.getLsbD i) = x.extractLsb' i 1 := by
  ext j hj
  obtain rfl : j = 0 := by omega
  simp

theorem Request.ofWord_toWord (r : Request) : Request.ofWord r.toWord = r := by
  obtain ⟨hop, hcmd, haddr, hdata, hframe, hexp⟩ :=
    extractLsb'_append_ports r.op (BitVec.ofBool r.cmd) r.addr r.data r.frame r.exp
  have hbit : r.toWord.getLsbD 2 = r.cmd := by
    rw [BitVec.getLsbD_eq_extractLsb', show r.toWord.extractLsb' 2 1 = _ from hcmd]
    cases r.cmd <;> rfl
  cases r
  simp only [Request.ofWord, Request.mk.injEq]
  exact ⟨hop, hbit, haddr, hdata, hframe, hexp⟩

theorem Request.toWord_ofWord (w : RequestWord) : (Request.ofWord w).toWord = w := by
  rw [Request.toWord, Request.ofWord, ofBool_getLsbD]
  exact append_ports_extractLsb' w

/-- Settles O25. -/
theorem requestWordKeepsEveryBit : Obligations.RequestWordKeepsEveryBit :=
  ⟨Request.ofWord_toWord, Request.toWord_ofWord⟩

/-! ### Decoding (R37) -/

theorem decode_requestOf (i : Instr) : decode (requestOf i) = i := by
  cases i <;> simp [decode, requestOf]

theorem decodeWord_encode (i : Instr) : decodeWord (encode i) = some i := by
  rw [decodeWord, encode, Request.ofWord_toWord, decode_requestOf]

/-- The opcode table's numbering of a whole word is the word's own value. -/
theorem decodeTableWord_toNat (w : RequestWord) : decodeTableWord 131 w.toNat = decodeWord w := by
  rw [decodeTableWord, Request.ofTableWord, Nat.mod_eq_of_lt w.isLt, BitVec.ofNat_toNat,
    BitVec.setWidth_eq, decodeWord]

/-- Settles O24: the request survives the word, and the operation survives the request. -/
theorem decodeEncodeRoundTrip : Obligations.DecodeEncodeRoundTrip := fun i _ =>
  ⟨decodeWord_encode i, (decodeTableWord_toNat _).trans (decodeWord_encode i)⟩

/-- Settles O26. -/
theorem writtenOutWordsDecode : Obligations.WrittenOutWordsDecode := by
  unfold Obligations.WrittenOutWordsDecode
  decide

end Sys2Proof

namespace Sys2Proof.Machine

theorem decode_of_op_crc3 {r : Request} (h : r.op = 0b01#2) : decode r = .crc3 r.frame := by
  simp [decode, h]

theorem decode_of_op_check {r : Request} (h : r.op = 0b10#2) :
    decode r = .check r.addr r.data r.cmd r.exp := by
  simp [decode, h]

theorem decode_of_op_seal {r : Request} (h : r.op = 0b11#2) : decode r = .sealFrame r.frame := by
  simp [decode, h]

/-- Settles O23: under each code, what is decoded names the ports it depends on. -/
theorem ignoredOperandPortsHaveNoEffect : Obligations.IgnoredOperandPortsHaveNoEffect := by
  intro r r' hop
  refine ⟨decode_of_op_pack, decode_of_op_crc3, decode_of_op_check, decode_of_op_seal,
    fun h ha hd hc => ?_, fun h hf => ?_, fun h ha hd hc he => ?_, fun h hf => ?_⟩
  · rw [decode_of_op_pack h, decode_of_op_pack (hop ▸ h), ha, hd, hc]
  · rw [decode_of_op_crc3 h, decode_of_op_crc3 (hop ▸ h), hf]
  · rw [decode_of_op_check h, decode_of_op_check (hop ▸ h), ha, hd, hc, he]
  · rw [decode_of_op_seal h, decode_of_op_seal (hop ▸ h), hf]

/-- Settles O30. -/
theorem stepRunsTheLatchedOperation : Obligations.StepRunsTheLatchedOperation := by
  rintro s i hr hb hv hw rfl -
  have hrun : step s = exec (decode s.latch) s.nextPins.countDown := by
    simp [step, hr, hb, hv, hw]
  have hwait : s.wait - 1 = 0 := by omega
  rw [hrun, State.countDown, State.nextPins, hwait]

/-! ### The Frame's fields, bit by bit (R31, R34) -/

theorem window_eq_extractLsb' (f : Word) : window f = f.extractLsb' 3 21 := by
  have hmask : (0x1FFFFF#32).setWidth 21 = BitVec.allOnes 21 := by decide
  rw [window, BitVec.setWidth_and, hmask, BitVec.and_allOnes,
    BitVec.setWidth_ushiftRight_eq_extractLsb]

theorem getLsbD_window (f : Word) (j : Nat) :
    (window f).getLsbD j = (decide (j < 21) && f.getLsbD (3 + j)) := by
  rw [window_eq_extractLsb', BitVec.getLsbD_extractLsb']

theorem fieldCrc_eq_setWidth (f : Word) : fieldCrc f = f.setWidth 3 := by
  have hmask : (0x7#32).setWidth 3 = BitVec.allOnes 3 := by decide
  rw [fieldCrc, BitVec.setWidth_and, hmask, BitVec.and_allOnes]

theorem getLsbD_windowMask (i : Nat) :
    windowMask.getLsbD i = (decide (3 ≤ i) && decide (i < 24)) := by
  have hmask : windowMask = (BitVec.allOnes 21).setWidth 32 <<< 3 := by decide
  rw [hmask]
  simp only [BitVec.getLsbD_shiftLeft, BitVec.getLsbD_setWidth, BitVec.getLsbD_allOnes]
  grind

theorem setWidth_window (f : Word) : (window f).setWidth 32 = (f &&& windowMask) >>> 3 := by
  refine BitVec.eq_of_getLsbD_eq fun i _ => ?_
  simp only [BitVec.getLsbD_setWidth, getLsbD_window, BitVec.getLsbD_ushiftRight,
    BitVec.getLsbD_and, getLsbD_windowMask]
  grind

/-- Settles O22. -/
theorem fieldMasksPartitionTheFrame : Obligations.FieldMasksPartitionTheFrame :=
  ⟨by decide, by decide, by decide, setWidth_window⟩

/-- Values with the same window have the same bits [23:3]. -/
theorem getLsbD_eq_of_window_eq {f g : Word} (h : window f = window g) {i : Nat} (hlo : 3 ≤ i)
    (hhi : i < 24) : f.getLsbD i = g.getLsbD i := by
  have hwin (x : Word) : (window x).getLsbD (i - 3) = x.getLsbD i := by
    rw [getLsbD_window, Nat.add_sub_cancel' hlo, decide_eq_true (by omega), Bool.true_and]
  rw [← hwin f, h, hwin g]

/-! ### Sealing (R81) -/

theorem getLsbD_insertCrc (f : Word) (k : Crc) (i : Nat) :
    (insertCrc f k).getLsbD i = if i < 3 then k.getLsbD i else decide (i < 24) && f.getLsbD i := by
  simp only [insertCrc, BitVec.getLsbD_setWidth, BitVec.getLsbD_or, BitVec.getLsbD_and,
    getLsbD_windowMask]
  grind

theorem window_insertCrc (f : Word) (k : Crc) :
    window (frameToPort (insertCrc f k)) = window f := by
  refine BitVec.eq_of_getLsbD_eq fun i _ => ?_
  simp only [getLsbD_window, frameToPort, BitVec.getLsbD_setWidth, getLsbD_insertCrc]
  grind

theorem fieldCrc_insertCrc (f : Word) (k : Crc) :
    fieldCrc (frameToPort (insertCrc f k)) = k := by
  refine BitVec.eq_of_getLsbD_eq fun i _ => ?_
  simp only [fieldCrc_eq_setWidth, frameToPort, BitVec.getLsbD_setWidth, getLsbD_insertCrc]
  grind

theorem insertCrc_eq_of_window_eq {f g : Word} (h : window f = window g) (k : Crc) :
    insertCrc f k = insertCrc g k := by
  refine BitVec.eq_of_getLsbD_eq fun i hi => ?_
  rw [getLsbD_insertCrc, getLsbD_insertCrc]
  split
  case isTrue => rfl
  case isFalse hlo => rw [getLsbD_eq_of_window_eq h (by omega) hi]

theorem mem_windowBits {i : Nat} : i ∈ windowBits ↔ 3 ≤ i ∧ i < 24 := by
  simp [windowBits]
  omega

/-- The checksum is a function of the window (R34, R56, R57). -/
theorem crc3_eq_of_window_eq {f g : Word} (h : window f = window g) : crc3 f = crc3 g := by
  refine crc3_congr fun i hi => ?_
  obtain ⟨hlo, hhi⟩ := mem_windowBits.1 hi
  exact getLsbD_eq_of_window_eq h hlo hhi

theorem sealFrame_eq_of_window_eq {f g : Word} (h : window f = window g) :
    sealFrame f = sealFrame g := by
  rw [sealFrame, crc3_eq_of_window_eq h, insertCrc_eq_of_window_eq h, sealFrame]

/-- Settles O15: sealing keeps the window, and the checksum and the sealed Frame depend on nothing else. -/
theorem sealedFramesAreSelfConsistent : Obligations.SealedFramesAreSelfConsistent := by
  intro f g
  have hwin : window (frameToPort (sealFrame f)) = window f := window_insertCrc f (crc3 f)
  have hcrc : fieldCrc (frameToPort (sealFrame f)) = crc3 f := fieldCrc_insertCrc f (crc3 f)
  exact ⟨(crc3_eq_of_window_eq hwin).trans hcrc.symm, hwin, sealFrame_eq_of_window_eq,
    sealFrame_eq_of_window_eq hwin⟩

/-! ### The Verifier over the pins (R42, R43) -/

theorem respond_requestOf (i : Instr) : respond (requestOf i) = responseTo i := by
  rw [respond, decode_requestOf]

/-- CHECK as an operation of the block is CHECK as a function of the vector (R43, R80). -/
theorem responseTo_checkOf (v : TestVector) : responseTo (Written.checkOf v) = checkVector v := rfl

theorem map_respond_verifyRequests (rows : List (Nat × TestVector)) :
    (verifyRequests rows).map (fun x => respond x.2) = (rows.map Prod.snd).map checkVector := by
  simp [verifyRequests, respond_requestOf, responseTo_checkOf]

theorem tallyFrom_map_checkVector (table : List TestVector) :
    tallyFrom table (table.map checkVector) = verify table := by
  simp [tallyFrom, verify, ← List.map_prod_left_eq_zip, List.foldl_map]

/-- Settles O47: the schedule's requests are answered in order (O46), and those are CHECK's responses. -/
theorem verifyOverThePinsIsVerify : Obligations.VerifyOverThePinsIsVerify := by
  intro rows s h hs
  obtain ⟨hpresented, -⟩ := scheduledRequestsAreAnsweredInOrder (verifyRequests rows) s h hs
  rw [hpresented, map_respond_verifyRequests, tallyFrom_map_checkVector]

/-! ### Written lines (R41, R42) -/

theorem operate_answers (i : Instr) (s : State) :
    ∃ t, operate i s = .next t ∧ t.rsp = responseTo i := by
  obtain ⟨l, x, h⟩ := exec_shape i (s.accept (requestOf i))
  exact ⟨_, h, rfl⟩

theorem Session.verifyLoop_eq_foldl (table : List TestVector) (t : Tally) (s : State) :
    ∃ s', Session.verifyLoop table t s =
      .next (table.foldl (fun t v => t.add v (checkVector v)) t, s') := by
  induction table generalizing t s with
  | nil => exact ⟨s, rfl⟩
  | cons v vs ih =>
    obtain ⟨u, hu, hrsp⟩ := operate_answers (Written.checkOf v) s
    rw [responseTo_checkOf] at hrsp
    obtain ⟨s', hs'⟩ := ih (t.add v (checkVector v)) u.endResponse
    exact ⟨s', by simp only [Session.verifyLoop, hu, hrsp, hs', List.foldl_cons]⟩

/-- Settles O48: the loop over the block's CHECK responses is VERIFY's own fold. -/
theorem writtenVerifyTalliesTheTable : Obligations.WrittenVerifyTalliesTheTable := by
  intro tables x table c hx
  obtain ⟨s, hs⟩ := Session.verifyLoop_eq_foldl table Tally.empty c.block
  exact ⟨{ c with tallies := c.tallies ++ [verify table], block := s },
    by simp [Session.run, hx, hs, verify], rfl, rfl⟩

/-- All a line other than VERIFY does: its one operation, the names it binds, the end of the response. -/
theorem Session.run_of_expand {tables : Written.Tables} {l : Written.Line} {c : Session} {i : Instr}
    {s : State} (hl : ∀ t, l ≠ .verify t) (hi : l.expand tables c.env = some [i])
    (hs : operate i c.block = .next s) :
    Session.run tables l c = some (.next
      { c with env := l.outs.zip (l.results s.rsp) ++ c.env, block := s.endResponse }) := by
  cases l
  case verify t => exact absurd rfl (hl t)
  all_goals simp only [Session.run, hi, hs]

theorem State.endResponse_idle (s : State) : s.endResponse.Idle := ⟨rfl, rfl⟩

/-- Settles O49: every operation answers with the response it is owed, and the line binds that. -/
theorem writtenLineBindsItsResponse : Obligations.WrittenLineBindsItsResponse := by
  intro tables l c i hl hi
  obtain ⟨s, hs, hrsp⟩ := operate_answers i c.block
  exact ⟨_, Session.run_of_expand hl hi hs, by rw [hrsp], rfl, s.endResponse_idle⟩

end Sys2Proof.Machine
end

section
/-! PROOFS. The Crc3Engine (spec `40_crc3engine.md`): the LFSR step, the micro-steps, which of an operand's
bits the checksum depends on, its linear part, the polynomial remainder, and the CRC3 operation. -/

namespace Sys2Proof.Machine

/-! ### The LFSR step (R53, R60) -/

/-- Settles O1: the step appends the three new bits, the highest first. -/
theorem lfsrStepComputesNewBitsFromOld : Obligations.LfsrStepComputesNewBitsFromOld := by
  intro r input
  simp only [bitOf, lfsrStep, BitVec.getLsbD_append, BitVec.getLsbD_ofBool]
  exact ⟨rfl, rfl, rfl⟩

theorem lfsrStep_eq_shift_xor (r : Crc) (input : Bool) :
    lfsrStep r input =
      ((r <<< 1) &&& 0b111#3) ^^^ (if (input ^^ bitOf r 2) = true then 0b011#3 else 0b000#3) := by
  revert r input; decide

theorem eq_zero_of_lfsrStep_false_eq_zero {r : Crc} (h : lfsrStep r false = 0) : r = 0 := by
  revert r; decide

/-- Registers that a step makes equal differ by one that a zero-input step clears, and that is 0. -/
theorem lfsrStep_injective (input : Bool) : Function.Injective fun r => lfsrStep r input := by
  intro r q (h : lfsrStep r input = lfsrStep q input)
  have hdiff : lfsrStep (r ^^^ q) false = 0 := by
    rw [← Bool.xor_self input, lfsrStep_xor, h, BitVec.xor_self]; rfl
  exact BitVec.xor_eq_zero_iff.1 (eq_zero_of_lfsrStep_false_eq_zero hdiff)

/-- Settles O2: an injective map of a finite type to itself is bijective. -/
theorem lfsrStepShiftXorForm : Obligations.LfsrStepShiftXorForm :=
  ⟨lfsrStep_eq_shift_xor, fun input => Finite.injective_iff_bijective.1 (lfsrStep_injective input),
    by decide, by decide⟩

/-! ### The register after some of the window's bits (R52, R62) -/

/-- The register that starts at `r`, after the first `n` of the operand's bits from 23 down. -/
def lfsrAfter (f : Word) (r : Crc) (n : Nat) : Crc :=
  (List.range n).foldl (fun r k => lfsrStep r (bitOf f (23 - k))) r

@[simp] theorem lfsrAfter_zero (f : Word) (r : Crc) : lfsrAfter f r 0 = r := rfl

theorem lfsrAfter_succ (f : Word) (r : Crc) (n : Nat) :
    lfsrAfter f r (n + 1) = lfsrStep (lfsrAfter f r n) (bitOf f (23 - n)) := by
  simp [lfsrAfter, List.range_succ]

theorem windowBits_eq_map_range : windowBits = (List.range 21).map (23 - ·) := by decide

theorem lfsrAfter_window (f : Word) (r : Crc) :
    lfsrAfter f r 21 = windowBits.foldl (fun r i => lfsrStep r (bitOf f i)) r := by
  rw [windowBits_eq_map_range, List.foldl_map, lfsrAfter]

theorem crc3_eq_lfsrAfter (f : Word) : crc3 f = lfsrAfter f 0b100#3 21 := by
  rw [lfsrAfter_window, crc3, crc_mask, lfsrInit]

theorem State.microShifts_succ (f : Word) (n : Nat) (s : State) :
    s.microShifts f (n + 1) = (s.microShifts f n).microShift f := by
  induction n generalizing s with
  | zero => rfl
  | succ n ih => exact ih (s.microShift f)

/-- `n` micro-steps have consumed the bits from 23 down to 24 - `n`, and `idx` names the next one. -/
theorem State.microInit_microShifts (f : Word) (s : State) {n : Nat} (hn : n ≤ 21) :
    (s.microInit.microShifts f n).lfsr = lfsrAfter f 0b100#3 n ∧
      (n < 21 → (s.microInit.microShifts f n).idx.toNat = 23 - n) := by
  induction n with
  | zero => exact ⟨rfl, fun _ => rfl⟩
  | succ n ih =>
    obtain ⟨hlfsr, hidx⟩ := ih (by omega)
    have hnext : (s.microInit.microShifts f n).idx.toNat = 23 - n := hidx (by omega)
    rw [State.microShifts_succ, State.microShift]
    refine ⟨by simp only [hlfsr, hnext, lfsrAfter_succ], fun hlt => ?_⟩
    have hne : (s.microInit.microShifts f n).idx ≠ 3#5 := by bv_omega
    simp only [hne, if_false]
    bv_omega

/-- Settles O4: the invariant of the micro-steps, and all that a whole computation does. -/
theorem microStepsFollowTheFold : Obligations.MicroStepsFollowTheFold := by
  intro f s n hn
  obtain ⟨hlfsr, hidx⟩ := State.microInit_microShifts f s hn
  exact ⟨hlfsr, hidx, State.computeCrc_crcResult f s, by rw [State.computeCrc_eq]⟩

/-! ### The start value (R51) -/

/-- Settles O3, by running the closed vectors of sections 1.2 and 2.6. -/
theorem startValueReproducesKnownVectors : Obligations.StartValueReproducesKnownVectors := by
  unfold Obligations.StartValueReproducesKnownVectors
  decide +kernel

/-! ### The bits the checksum depends on (R56, R57) -/

theorem window_and (f g : Word) : window (f &&& g) = window f &&& window g := by
  simp only [window_eq_extractLsb', BitVec.extractLsb'_and]

theorem window_or (f g : Word) : window (f ||| g) = window f ||| window g := by
  simp only [window_eq_extractLsb', BitVec.extractLsb'_or]

theorem window_and_mask (f : Word) {m : Word} (hm : window m = BitVec.allOnes 21) :
    window (f &&& m) = window f := by
  rw [window_and, hm, BitVec.and_allOnes]

theorem window_setWidth_crc (c : Crc) : window (c.setWidth 32) = 0 := by
  revert c; decide

theorem window_replace_checksum (f : Word) (c : Crc) :
    window ((f &&& 0xFFFFFFF8#32) ||| c.setWidth 32) = window f := by
  rw [window_or, window_setWidth_crc, window_and_mask f (by decide)]
  exact BitVec.or_zero

theorem window_append_high (u : BitVec 8) (f : Word) :
    window (u ++ f.setWidth 24 : BitVec 32) = window f := by
  refine BitVec.eq_of_getLsbD_eq fun i hi => ?_
  have hlow : 3 + i < 24 := by omega
  simp only [getLsbD_window, BitVec.getLsbD_append, BitVec.getLsbD_setWidth, hlow, if_true,
    decide_true, Bool.true_and]

/-- Settles O5: none of the replacements reaches the window. -/
theorem checksumFieldDoesNotMatter : Obligations.ChecksumFieldDoesNotMatter := by
  intro f c₁ c₂
  have hreplaced := (window_replace_checksum f c₁).trans (window_replace_checksum f c₂).symm
  exact ⟨crc3_eq_of_window_eq hreplaced, crc3_eq_of_window_eq (window_and_mask f (by decide)).symm⟩

/-- Settles O6: the top byte is outside the window, and both masks keep all of it. -/
theorem bitsAbove23DoNotMatter : Obligations.BitsAbove23DoNotMatter := by
  intro f u
  exact ⟨crc3_eq_of_window_eq (window_append_high u f),
    crc3_eq_of_window_eq (window_and_mask f (by decide)).symm,
    crc3_eq_of_window_eq (window_and_mask f (by decide)).symm⟩

/-! ### The linear part of the checksum (R58, R61) -/

/-- `L` of R61: the checksum with the register started at 0. -/
def crcLinear (f : Word) : Crc := lfsrAfter f 0 21

theorem lfsrAfter_xor (f g : Word) (r q : Crc) :
    lfsrAfter (f ^^^ g) (r ^^^ q) 21 = lfsrAfter f r 21 ^^^ lfsrAfter g q 21 := by
  simp only [lfsrAfter_window, foldl_lfsrStep_xor]

theorem crcLinear_xor (f g : Word) : crcLinear (f ^^^ g) = crcLinear f ^^^ crcLinear g :=
  lfsrAfter_xor f g 0 0

/-- With zero input the register returns to the start value after 21 = 3 * 7 steps (R60). -/
theorem crc3_zero : crc3 0 = 4 := by decide +kernel

/-- The start value adds what it adds with zero input. -/
theorem crc3_eq_crcLinear_xor (f : Word) : crc3 f = crcLinear f ^^^ 0b100#3 := by
  calc crc3 f = lfsrAfter (f ^^^ 0) (0 ^^^ 0b100#3) 21 := by
        rw [crc3_eq_lfsrAfter]; simp
    _ = crcLinear f ^^^ crc3 0 := by rw [lfsrAfter_xor, ← crc3_eq_lfsrAfter, crcLinear]
    _ = crcLinear f ^^^ 0b100#3 := by rw [crc3_zero]; rfl

theorem crc3_xor (f g : Word) : crc3 (f ^^^ g) = crc3 f ^^^ crcLinear g := by
  simp only [crc3_eq_crcLinear_xor, crcLinear_xor, BitVec.xor_assoc, BitVec.xor_comm (0b100#3)]

theorem crcLinear_eq_crc3_xor (f : Word) : crcLinear f = crc3 f ^^^ 0b100#3 := by
  rw [crc3_eq_crcLinear_xor, BitVec.xor_assoc, BitVec.xor_self, BitVec.xor_zero]

/-- What each bit of the window adds to the checksum (R61). -/
theorem map_crcLinear_windowBits :
    windowBits.map (fun i => crcLinear (1#32 <<< i)) =
      [4, 2, 1, 5, 7, 6, 3, 4, 2, 1, 5, 7, 6, 3, 4, 2, 1, 5, 7, 6, 3] := by
  decide +kernel

/-- Settles O8: `L` is linear, and its values on single bits are listed. -/
theorem checksumIsAffine : Obligations.ChecksumIsAffine := by
  simp only [Obligations.ChecksumIsAffine, ← crcLinear_eq_crc3_xor]
  exact ⟨crcLinear_xor, crc3_zero, map_crcLinear_windowBits⟩

/-- What toggling the reserved bits of the pattern `p` adds to the checksum (R58). -/
def reservedTerm (p : BitVec 5) : Crc := crcLinear (p.setWidth 32 <<< 3)

theorem reservedTerm_eq_zero_iff : ∀ p : BitVec 5, p ≠ 0 →
    (reservedTerm p = 0 ↔ p = 0b01011#5 ∨ p = 0b10110#5 ∨ p = 0b11101#5) := by
  decide +kernel

/-- Settles O7: the amount is `L` of the toggled bits, whatever the Frame. -/
theorem reservedBitsParticipate : Obligations.ReservedBitsParticipate :=
  ⟨reservedTerm, fun f p => crc3_xor f (p.setWidth 32 <<< 3), reservedTerm_eq_zero_iff,
    by decide +kernel⟩

/-! ### Single-bit errors (R61) -/

theorem fieldCrc_xor (f g : Word) : fieldCrc (f ^^^ g) = fieldCrc f ^^^ fieldCrc g := by
  simp only [fieldCrc_eq_setWidth, BitVec.setWidth_xor]

theorem fieldCrc_twoPow_eq_zero {i : Nat} (hi : 3 ≤ i) : fieldCrc (BitVec.twoPow 32 i) = 0 := by
  rw [fieldCrc_eq_setWidth]
  refine BitVec.eq_of_getLsbD_eq fun j hj => ?_
  have hne : i ≠ j := by omega
  simp [BitVec.getLsbD_twoPow, hne]

/-- No bit of the window is without effect: 0 is not among the listed values. -/
theorem crcLinear_twoPow_ne_zero {i : Nat} (hi : i ∈ windowBits) :
    crcLinear (BitVec.twoPow 32 i) ≠ 0 := by
  have hmem : crcLinear (1#32 <<< i) ∈ windowBits.map fun i => crcLinear (1#32 <<< i) :=
    List.mem_map_of_mem hi
  rw [map_crcLinear_windowBits] at hmem
  rw [BitVec.twoPow_eq]
  exact ne_of_mem_of_not_mem hmem (by decide)

/-- An error in one bit of the window reaches the computed checksum and not the checksum field; one in the
checksum field, the other way round. -/
theorem crcLinear_twoPow_ne_fieldCrc {i : Nat} (hi : i ≤ 23) :
    crcLinear (BitVec.twoPow 32 i) ≠ fieldCrc (BitVec.twoPow 32 i) := by
  by_cases hlo : 3 ≤ i
  · rw [fieldCrc_twoPow_eq_zero hlo]
    exact crcLinear_twoPow_ne_zero (mem_windowBits.2 ⟨hlo, by omega⟩)
  · have hcases : i = 0 ∨ i = 1 ∨ i = 2 := by omega
    obtain rfl | rfl | rfl := hcases <;> decide +kernel

/-- Settles O10: the flip moves the computed checksum and the checksum field by different amounts. -/
theorem singleBitErrorsAreDetected : Obligations.SingleBitErrorsAreDetected := by
  intro f i hi hsealed hflip
  rw [crc3_xor, fieldCrc_xor, hsealed, BitVec.xor_right_inj] at hflip
  exact crcLinear_twoPow_ne_fieldCrc hi hflip

/-! ### The polynomial remainder (R61) -/

/-- The window's bits below bit `n`, at their places. -/
def windowBelow (f : Word) (n : Nat) : BitVec 24 :=
  ((window f).setWidth 24 <<< 3) &&& (BitVec.allOnes n).setWidth 24

theorem getLsbD_windowBelow (f : Word) (n j : Nat) (hn : n ≤ 24) :
    (windowBelow f n).getLsbD j = (decide (3 ≤ j) && decide (j < n) && bitOf f j) := by
  simp only [windowBelow, bitOf, BitVec.getLsbD_and, BitVec.getLsbD_shiftLeft, BitVec.getLsbD_setWidth,
    getLsbD_window, BitVec.getLsbD_allOnes]
  grind

/-- Raising the bound by one adds the bit at the bound. -/
theorem windowBelow_succ (f : Word) {i : Nat} (hlo : 3 ≤ i) (hhi : i < 24) :
    windowBelow f (i + 1) = windowBelow f i ^^^ ((BitVec.ofBool (bitOf f i)).setWidth 24 <<< i) := by
  refine BitVec.eq_of_getLsbD_eq fun j hj => ?_
  rw [BitVec.getLsbD_xor, getLsbD_windowBelow f _ j (by omega), getLsbD_windowBelow f _ j (by omega)]
  simp only [BitVec.getLsbD_shiftLeft, BitVec.getLsbD_setWidth, BitVec.getLsbD_ofBool]
  grind

/-- Shift in the bit at `x^3`, then subtract `x^3 + x + 1` if the coefficient of `x^3` is 1: that is the
LFSR step (R53). -/
theorem setWidth_lfsrStep (r : Crc) (input : Bool) :
    (lfsrStep r input).setWidth 24 =
      ((BitVec.ofBool input).setWidth 24 <<< 3) ^^^ (r.setWidth 24 <<< 1) ^^^
        (if (input ^^ bitOf r 2) = true then 0b1011#24 else 0) := by
  revert r input; decide

/-- One step of the long division is one step of the LFSR: the register stands at the three highest places
not cleared yet, added to the window's bits not consumed yet. -/
theorem divideStep_windowBelow (f : Word) (r : Crc) {j : Nat} (hj : j < 21) :
    divideStep (windowBelow f (j + 4) ^^^ (r.setWidth 24 <<< (j + 1))) (j + 3) =
      windowBelow f (j + 3) ^^^ ((lfsrStep r (bitOf f (j + 3))).setWidth 24 <<< j) := by
  have hlead : bitOf (windowBelow f (j + 4) ^^^ (r.setWidth 24 <<< (j + 1))) (j + 3) =
      (bitOf f (j + 3) ^^ bitOf r 2) := by
    rw [bitOf, BitVec.getLsbD_xor, getLsbD_windowBelow f _ _ (by omega)]
    simp only [BitVec.getLsbD_shiftLeft, BitVec.getLsbD_setWidth, bitOf]
    grind
  have hshift (x : BitVec 24) (k : Nat) : x <<< k <<< j = x <<< (j + k) := by
    rw [← BitVec.shiftLeft_add, Nat.add_comm]
  rw [divideStep, hlead, windowBelow_succ f (by omega) (by omega), setWidth_lfsrStep]
  split <;> simp [BitVec.shiftLeft_xor_distrib, hshift, BitVec.xor_assoc]

theorem windowBelow_top (f : Word) : windowBelow f 24 = (window f).setWidth 24 <<< 3 := by
  rw [windowBelow, BitVec.setWidth_eq, BitVec.and_allOnes]

theorem windowBelow_bottom (f : Word) : windowBelow f 3 = 0 := by
  refine BitVec.eq_of_getLsbD_eq fun j hj => ?_
  rw [getLsbD_windowBelow f _ j (by omega)]
  grind

/-- The long division of `M * x^3` with `r` added at its three highest places, after `n` steps. -/
theorem foldl_divideStep (f : Word) (r : Crc) {n : Nat} (hn : n ≤ 21) :
    (List.range n).foldl (fun m k => divideStep m (23 - k))
        (windowBelow f 24 ^^^ (r.setWidth 24 <<< 21)) =
      windowBelow f (24 - n) ^^^ ((lfsrAfter f r n).setWidth 24 <<< (21 - n)) := by
  induction n with
  | zero => rfl
  | succ n ih =>
    obtain ⟨j, hj⟩ : ∃ j, n + j = 20 := ⟨20 - n, by omega⟩
    have hdiv : 23 - n = j + 3 := by omega
    have hbelow : 24 - n = j + 4 := by omega
    have hbelow' : 24 - (n + 1) = j + 3 := by omega
    have hreg : 21 - n = j + 1 := by omega
    have hreg' : 21 - (n + 1) = j := by omega
    rw [List.range_succ, List.foldl_concat, ih (by omega), lfsrAfter_succ, hdiv, hbelow, hbelow',
      hreg, hreg']
    exact divideStep_windowBelow f (lfsrAfter f r n) (by omega)

/-- The remainder of `M * x^3` with `r` added at its three highest places is what the LFSR makes of the
window, started at `r`. -/
theorem polyRem_window_xor (f : Word) (r : Crc) :
    polyRem (((window f).setWidth 24 <<< 3) ^^^ (r.setWidth 24 <<< 21)) = lfsrAfter f r 21 := by
  rw [polyRem, windowBits_eq_map_range, List.foldl_map, ← windowBelow_top,
    foldl_divideStep f r (Nat.le_refl 21), windowBelow_bottom]
  simp

/-- Settles O9: the two forms start the register at `0b100` and at 0. -/
theorem checksumIsPolynomialRemainder : Obligations.ChecksumIsPolynomialRemainder := by
  intro f
  constructor
  · rw [crc3_eq_lfsrAfter, ← polyRem_window_xor]
    rfl
  · rw [crc3_eq_crcLinear_xor, crcLinear, ← polyRem_window_xor]
    simp

/-! ### The CRC3 operation (R50) -/

theorem exec_crc3 (f : Word) (s : State) :
    exec (.crc3 f) s =
      .next { s with
        rspValid := true
        rsp := { frame := 0, crc := crc3 f, pass := false }
        lfsr := crc3 f
        idx := 3#5 } := by
  rw [exec, execCrc3, State.presentResponse_eq, State.computeCrc_crcResult, State.computeCrc_eq]

theorem crc3_eq_four_of_window_ones {f : Word} (h : f &&& 0xFFFFF8#32 = 0xFFFFF8#32) : crc3 f = 4 := by
  have hwin : window f = window 0xFFFFF8#32 := by
    rw [← h, window_and_mask f (by decide)]
  rw [crc3_eq_of_window_eq hwin]
  decide +kernel

/-- Settles O12: `exec_crc3` names all the operation does, and the checksum is the fold of all 21 bits. -/
theorem crc3AnswersChecksum : Obligations.Crc3AnswersChecksum :=
  ⟨fun f s => ⟨_, exec_crc3 f s, rfl, by rw [crc3_eq_lfsrAfter, crc_mask, lfsrAfter], rfl,
      (crc_mask _).symm, rfl⟩,
    fun _ => decode_of_op_crc3, crc3_zero, fun _ => crc3_eq_four_of_window_ones, by decide +kernel⟩

end Sys2Proof.Machine
end

section
/-! PROOFS. The FramePacker (spec `41_framepacker.md`): the masked operands, the packed Frame as its fields
side by side, PACK's bijection onto the checksum-cleared Frames, and the PACK operation. -/

namespace Sys2Proof.Machine

/-! ### The masked operands (R39, R71) -/

/-- Cutting to `w` bits makes a mask of `w` ones needless. -/
theorem setWidth_and_ones (x : Word) {w : Nat} {m : Word} (hm : m.setWidth w = BitVec.allOnes w) :
    (x &&& m).setWidth w = x.setWidth w := by
  rw [BitVec.setWidth_and, hm, BitVec.and_allOnes]

theorem narrowAddr_eq_setWidth (a : Word) : narrowAddr a = a.setWidth 7 :=
  setWidth_and_ones a (by decide)

theorem narrowData_eq_setWidth (d : Word) : narrowData d = d.setWidth 8 :=
  setWidth_and_ones d (by decide)

@[simp] theorem narrowAddr_setWidth (x : BitVec 7) : narrowAddr (x.setWidth 32) = x := by
  rw [narrowAddr_eq_setWidth, BitVec.setWidth_setWidth_of_le x (by decide), BitVec.setWidth_eq]

@[simp] theorem narrowData_setWidth (y : BitVec 8) : narrowData (y.setWidth 32) = y := by
  rw [narrowData_eq_setWidth, BitVec.setWidth_setWidth_of_le y (by decide), BitVec.setWidth_eq]

@[simp] theorem narrowCmd_inj {c c' : Bool} : narrowCmd c = narrowCmd c' ↔ c = c' := by
  revert c c'; decide

/-- Widened, the narrowed address is the masked operand: narrowing loses nothing more. -/
theorem setWidth_narrowAddr (a : Word) : (narrowAddr a).setWidth 32 = a &&& 0x7F#32 := by
  rw [narrowAddr_eq_setWidth, BitVec.setWidth_eq_append (by decide)]
  exact (BitVec.and_setWidth_allOnes 25 7 a).symm

theorem setWidth_narrowData (d : Word) : (narrowData d).setWidth 32 = d &&& 0xFF#32 := by
  rw [narrowData_eq_setWidth, BitVec.setWidth_eq_append (by decide)]
  exact (BitVec.and_setWidth_allOnes 24 8 d).symm

/-! ### The Frame's fields as runs of its bits (R31) -/

/-- Shifting right by `k` and masking to `w` bits reads the run of `w` bits from bit `k` up. -/
theorem setWidth_ushiftRight_and (f : Word) (k : Nat) {w : Nat} {m : Word}
    (hm : m.setWidth w = BitVec.allOnes w) : ((f >>> k) &&& m).setWidth w = f.extractLsb' k w := by
  rw [setWidth_and_ones _ hm, BitVec.setWidth_ushiftRight_eq_extractLsb]

theorem fieldC_eq_extractLsb' (f : Word) : fieldC f = f.extractLsb' 23 1 :=
  setWidth_ushiftRight_and f 23 (by decide)

theorem fieldAddr_eq_extractLsb' (f : Word) : fieldAddr f = f.extractLsb' 16 7 :=
  setWidth_ushiftRight_and f 16 (by decide)

theorem fieldData_eq_extractLsb' (f : Word) : fieldData f = f.extractLsb' 8 8 :=
  setWidth_ushiftRight_and f 8 (by decide)

theorem fieldRsvd_eq_extractLsb' (f : Word) : fieldRsvd f = f.extractLsb' 3 5 :=
  setWidth_ushiftRight_and f 3 (by decide)

theorem fieldCrc_eq_extractLsb' (f : Word) : fieldCrc f = f.extractLsb' 0 3 := by
  rw [fieldCrc_eq_setWidth, BitVec.setWidth_eq_extractLsb' (by decide)]

/-! ### The packed Frame (R72) -/

/-- Narrowing before the shift or masking before it is the same. -/
theorem pack_eq_masked (a d : Word) (c : Bool) :
    pack a d c = ((BitVec.ofBool c).setWidth 24 <<< 23) ||| ((a &&& 0x7F#32).setWidth 24 <<< 16) |||
      ((d &&& 0xFF#32).setWidth 24 <<< 8) := by
  rw [← setWidth_narrowAddr, ← setWidth_narrowData, BitVec.setWidth_setWidth_of_le _ (by decide),
    BitVec.setWidth_setWidth_of_le _ (by decide), pack, narrowCmd]

/-- The packed Frame is command, address, data and a zero byte, side by side. -/
theorem pack_eq_append (a d : Word) (c : Bool) :
    pack a d c = narrowCmd c ++ narrowAddr a ++ narrowData d ++ 0#8 := by
  have h := BitVec.setWidth_append_append_append_eq_shiftLeft_setWidth_or (w'''' := 24)
    (b := narrowCmd c) (b' := narrowAddr a) (b'' := narrowData d) (b''' := 0#8)
  simpa [pack] using h.symm

/-- What a run of bits below bit 24 of the packed Frame reads, on the port as in the Frame. -/
theorem extractLsb'_frameToPort_pack (a d : Word) (c : Bool) {k w : Nat} (h : k + w ≤ 24) :
    (frameToPort (pack a d c)).extractLsb' k w =
      (narrowCmd c ++ narrowAddr a ++ narrowData d ++ 0#8).extractLsb' k w := by
  rw [frameToPort, BitVec.extractLsb'_setWidth_of_le (Nat.le_trans h (by decide)), pack_eq_append]

@[simp] theorem fieldC_pack (a d : Word) (c : Bool) :
    fieldC (frameToPort (pack a d c)) = narrowCmd c := by
  rw [fieldC_eq_extractLsb', extractLsb'_frameToPort_pack a d c (by decide)]
  simp [-Nat.reduceAdd, BitVec.extractLsb'_append_eq_of_le]

@[simp] theorem fieldAddr_pack (a d : Word) (c : Bool) :
    fieldAddr (frameToPort (pack a d c)) = narrowAddr a := by
  rw [fieldAddr_eq_extractLsb', extractLsb'_frameToPort_pack a d c (by decide)]
  simp [-Nat.reduceAdd, BitVec.extractLsb'_append_eq_of_le,
    BitVec.extractLsb'_append_eq_right]

@[simp] theorem fieldData_pack (a d : Word) (c : Bool) :
    fieldData (frameToPort (pack a d c)) = narrowData d := by
  rw [fieldData_eq_extractLsb', extractLsb'_frameToPort_pack a d c (by decide)]
  simp [-Nat.reduceAdd, BitVec.extractLsb'_append_eq_of_le,
    BitVec.extractLsb'_append_eq_right]

@[simp] theorem fieldRsvd_pack (a d : Word) (c : Bool) :
    fieldRsvd (frameToPort (pack a d c)) = 0 := by
  rw [fieldRsvd_eq_extractLsb', extractLsb'_frameToPort_pack a d c (by decide)]
  simp [-Nat.reduceAdd, BitVec.extractLsb'_append_eq_of_add_le]

@[simp] theorem fieldCrc_pack (a d : Word) (c : Bool) :
    fieldCrc (frameToPort (pack a d c)) = 0 := by
  rw [fieldCrc_eq_extractLsb', extractLsb'_frameToPort_pack a d c (by decide)]
  simp [-Nat.reduceAdd, BitVec.extractLsb'_append_eq_of_add_le]

/-- A Frame on its port has nothing above bit 23 (R33). -/
theorem frameToPort_toNat_lt (f : Frame) : (frameToPort f).toNat < 2 ^ 24 := by
  rw [frameToPort, BitVec.toNat_setWidth_of_le (by decide)]
  exact f.isLt

/-! ### Disjoint terms -/

/-- Fields that end before the next one begins have no bit in common. -/
theorem and_shifted_eq_zero {m n w i j : Nat} (x : BitVec m) (y : BitVec n) (h : j + n ≤ i) :
    (x.setWidth w <<< i) &&& (y.setWidth w <<< j) = 0#w := by
  refine BitVec.eq_of_getLsbD_eq fun l _ => ?_
  by_cases hl : l < i
  · simp [hl]
  · have hy : y.getLsbD (l - j) = false := BitVec.getLsbD_of_ge y _ (by omega)
    simp [hy]

theorem or_eq_xor_of_and_eq_zero {w : Nat} {x y : BitVec w} (h : x &&& y = 0#w) :
    x ||| y = x ^^^ y := by
  refine BitVec.eq_of_getLsbD_eq fun l _ => ?_
  have hl : (x.getLsbD l && y.getLsbD l) = false := by
    rw [← BitVec.getLsbD_and, h, BitVec.getLsbD_zero]
  simp only [BitVec.getLsbD_or, BitVec.getLsbD_xor]
  grind

/-- Three terms no two of which have a bit in common: `|` is `^`, and it is addition. -/
theorem or_or_eq_of_disjoint {w : Nat} {x y z : BitVec w} (hxy : x &&& y = 0#w)
    (hxz : x &&& z = 0#w) (hyz : y &&& z = 0#w) :
    x ||| y ||| z = x ^^^ y ^^^ z ∧ x ||| y ||| z = x + y + z := by
  have hz : (x ||| y) &&& z = 0#w := by
    rw [BitVec.and_or_distrib_right, hxz, hyz, BitVec.or_zero]
  constructor
  · rw [or_eq_xor_of_and_eq_zero hz, or_eq_xor_of_and_eq_zero hxy]
  · rw [BitVec.add_eq_or_of_and_eq_zero x y hxy, BitVec.add_eq_or_of_and_eq_zero _ z hz]

/-- Settles O19: each field is read back from its place, and the three terms are disjoint. -/
theorem packPlacesFields : Obligations.PackPlacesFields := by
  intro a d c
  obtain ⟨hxor, hadd⟩ := or_or_eq_of_disjoint
    (and_shifted_eq_zero (w := 24) (narrowCmd c) (narrowAddr a) (i := 23) (j := 16) (by decide))
    (and_shifted_eq_zero (narrowCmd c) (narrowData d) (j := 8) (by decide))
    (and_shifted_eq_zero (narrowAddr a) (narrowData d) (by decide))
  exact ⟨fieldC_pack a d c, fieldAddr_pack a d c, fieldData_pack a d c, fieldRsvd_pack a d c,
    fieldCrc_pack a d c, frameToPort_toNat_lt _, hxor, hadd⟩

/-! ### The masked-away bits (R71) -/

theorem pack_congr {a a' d d' : Word} (ha : a &&& 0x7F#32 = a' &&& 0x7F#32)
    (hd : d &&& 0xFF#32 = d' &&& 0xFF#32) (c : Bool) : pack a d c = pack a' d' c := by
  rw [pack_eq_masked, ha, hd, ← pack_eq_masked]

/-- CHECK depends on address, data and command through the packed Frame alone (R80). -/
theorem exec_check_congr {a a' d d' : Word} {c c' : Bool} (h : pack a d c = pack a' d' c')
    (e : Word) (s : State) : exec (.check a d c e) s = exec (.check a' d' c' e) s := by
  simp only [exec, execCheck, h]

/-- Settles O18: PACK and CHECK see the operands through the packed Frame, which holds the masked ones. -/
theorem maskedAwayBitsHaveNoEffect : Obligations.MaskedAwayBitsHaveNoEffect := by
  refine ⟨fun a a' d d' c ha hd => ?_, fun a d c => ?_, by decide, by decide⟩
  · have hpack : pack a d c = pack a' d' c := pack_congr ha hd c
    exact ⟨hpack, fun s => by rw [exec_pack, exec_pack, hpack], exec_check_congr hpack⟩
  · rw [fieldAddr_pack, fieldData_pack, setWidth_narrowAddr, setWidth_narrowData, fieldC_pack]
    exact ⟨rfl, rfl, rfl⟩

/-! ### PACK and the checksum-cleared Frames (R73) -/

theorem and_lowByte_eq_zero_iff (f : Frame) : f &&& 0xFF#24 = 0 ↔ f.setWidth 8 = 0#8 := by
  have hand : f &&& 0xFF#24 = 0#16 ++ f.setWidth 8 := BitVec.and_setWidth_allOnes 16 8 f
  rw [hand]
  exact BitVec.append_right_inj (0#16) (t₂ := 0#8)

theorem pack_wellFormed (a d : Word) (c : Bool) : wellFormedFrame (frameToPort (pack a d c)) = true := by
  rw [wellFormedFrame, decide_eq_true (frameToPort_toNat_lt _), fieldRsvd_pack]
  rfl

/-- A Frame whose low byte is 0 is packed from its own fields. -/
theorem pack_fields {f : Frame} (hf : f.setWidth 8 = 0#8) :
    pack ((f.extractLsb' 16 7).setWidth 32) ((f.extractLsb' 8 8).setWidth 32) (f.getLsbD 23) = f := by
  have hlow : 0#8 = f.extractLsb' 0 8 := by rw [← hf, BitVec.setWidth_eq_extractLsb' (by decide)]
  rw [pack_eq_append, narrowAddr_setWidth, narrowData_setWidth, narrowCmd, ofBool_getLsbD, hlow]
  simp only [BitVec.extractLsb'_append_extractLsb'_eq_extractLsb']
  exact BitVec.extractLsb'_eq_self

/-- Settles O20: the fields of the packed Frame give the narrowed operands back. -/
theorem packIsABijectionOntoClearedFrames : Obligations.PackIsABijectionOntoClearedFrames := by
  refine ⟨fun a d c => ⟨pack_wellFormed a d c, ?_⟩, fun f hf => ?_, fun a a' d d' c c' h => ?_⟩
  · rw [and_lowByte_eq_zero_iff, pack_eq_append]
    exact BitVec.setWidth_append_eq_right
  · exact ⟨_, _, _, pack_fields ((and_lowByte_eq_zero_iff f).1 hf)⟩
  · rw [← fieldAddr_pack a d c, ← fieldData_pack a d c, ← narrowCmd_inj, ← fieldC_pack a d c, h]
    exact ⟨fieldAddr_pack a' d' c', fieldData_pack a' d' c', fieldC_pack a' d' c'⟩

/-! ### The PACK operation (R70) -/

/-- Settles O11: PACK only presents the packed Frame. -/
theorem packAnswersPackedFrame : Obligations.PackAnswersPackedFrame :=
  ⟨fun a d c s => by rw [exec_pack, State.presentResponse_eq, pack_eq_masked],
    fun _ => decode_of_op_pack, by decide, by decide, by decide, by decide⟩

end Sys2Proof.Machine
end

section
/-! PROOFS. CHECK, SEAL and the Verifier (spec `42_verifier_and_composites.md`): the comparison on 3 bits,
the two composite operations, and VERIFY's fold in closed form. -/

namespace Sys2Proof.Machine

/-! ### The comparison (R80) -/

theorem narrowExp_eq_setWidth (e : Word) : narrowExp e = e.setWidth 3 :=
  setWidth_and_ones e (by decide)

/-- Widened, the narrowed expected checksum is the masked operand. -/
theorem setWidth_narrowExp (e : Word) : (narrowExp e).setWidth 32 = e &&& 0b111#32 := by
  rw [narrowExp_eq_setWidth, BitVec.setWidth_eq_append (by decide)]
  exact (BitVec.and_setWidth_allOnes 29 3 e).symm

@[simp] theorem narrowExp_setWidth (k : Crc) : narrowExp (k.setWidth 32) = k := by
  rw [narrowExp_eq_setWidth, BitVec.setWidth_setWidth_of_le k (by decide), BitVec.setWidth_eq]

/-- Comparing on 3 bits is comparing the widened checksum with the masked operand. -/
theorem passFlag_iff (k : Crc) (e : Word) : passFlag k e = true ↔ k.setWidth 32 = e &&& 0b111#32 := by
  have hinj : Function.Injective (BitVec.setWidth 32 : Crc → Word) :=
    Function.LeftInverse.injective narrowExp_setWidth
  rw [passFlag, beq_iff_eq, ← setWidth_narrowExp, hinj.eq_iff]

theorem passFlag_masked (k : Crc) (e : Word) : passFlag k (e &&& 0b111#32) = passFlag k e := by
  rw [Bool.eq_iff_iff, passFlag_iff, passFlag_iff, BitVec.and_assoc, BitVec.and_self]

/-! ### The operations CHECK and SEAL (R80, R81) -/

/-- CHECK sees the operands through what it masks them to (R80). -/
theorem exec_check_masked (a d : Word) (c : Bool) (e : Word) (s : State) :
    exec (.check a d c e) s =
      exec (.check (a &&& 0x7F#32) (d &&& 0xFF#32) c (e &&& 0b111#32)) s := by
  have hpack : pack a d c = pack (a &&& 0x7F#32) (d &&& 0xFF#32) c :=
    pack_congr (by rw [BitVec.and_assoc, BitVec.and_self])
      (by rw [BitVec.and_assoc, BitVec.and_self]) c
  rw [exec_check_congr hpack]
  simp only [exec, execCheck, passFlag_masked]

/-- Settles O13: `exec_shape` names all the operation does, and `pass` compares with the masked operand. -/
theorem checkAnswersComparison : Obligations.CheckAnswersComparison := by
  refine ⟨fun a d c e s => ?_, fun _ => decode_of_op_check, exec_check_masked, by decide +kernel,
    by decide +kernel⟩
  obtain ⟨l, x, h⟩ := exec_shape (.check a d c e) s
  exact ⟨_, h, rfl, rfl, rfl, passFlag_iff _ e, rfl⟩

/-- Settles O14: `exec_shape` names all the operation does; it answers the sealed Frame. -/
theorem sealAnswersSealedFrame : Obligations.SealAnswersSealedFrame := by
  refine ⟨fun f s => ?_, fun _ => decode_of_op_seal, by decide +kernel⟩
  obtain ⟨l, x, h⟩ := exec_shape (.sealFrame f) s
  exact ⟨_, h, rfl, rfl, rfl⟩

/-! ### VERIFY's fold in closed form (R82, R83) -/

/-- CHECK of the vector passes exactly when it expects its own checksum, masked to 3 bits. -/
theorem checkVector_pass_iff (v : TestVector) :
    (checkVector v).pass = true ↔
      (crc3 ((pack v.address v.data v.command).setWidth 32)).setWidth 32 =
        v.expectedCrc &&& 0b111#32 :=
  passFlag_iff _ v.expectedCrc

/-- The record VERIFY emits of the vector `v` in place `n` of its table. -/
def recordOf (n : Nat) (v : TestVector) : VerifyRecord where
  index := n
  command := v.command
  address := v.address
  data := v.data
  expectedCrc := v.expectedCrc
  computedCrc := (checkVector v).crc
  pass := (checkVector v).pass

theorem verify_concat (table : List TestVector) (v : TestVector) :
    verify (table ++ [v]) = (verify table).add v (checkVector v) := by
  simp [verify]

theorem verify_totalCount (table : List TestVector) : (verify table).totalCount = table.length := by
  induction table using List.reverseRecOn with
  | nil => rfl
  | append_singleton vs v ih => rw [verify_concat, Tally.add, ih, List.length_append]; rfl

theorem verify_records (table : List TestVector) :
    (verify table).records = table.mapIdx recordOf := by
  induction table using List.reverseRecOn with
  | nil => rfl
  | append_singleton vs v ih =>
    rw [verify_concat, Tally.add, ih, verify_totalCount, List.mapIdx_concat, indexBase, Nat.zero_add]
    rfl

theorem verify_mismatchCount (table : List TestVector) :
    (verify table).mismatchCount = table.countP fun v => !(checkVector v).pass := by
  induction table using List.reverseRecOn with
  | nil => rfl
  | append_singleton vs v ih =>
    rw [verify_concat, Tally.add, ih, List.countP_append, List.countP_singleton]
    cases (checkVector v).pass <;> rfl

/-- A vector's mismatch is its record's: the place in the table plays no part. -/
theorem countP_verify_records (table : List TestVector) :
    (verify table).records.countP (fun r => !r.pass) = table.countP fun v => !(checkVector v).pass := by
  rw [verify_records, List.mapIdx_eq_zipIdx_map, List.countP_map]
  conv_rhs => rw [← List.zipIdx_map_fst 0 table, List.countP_map]
  rfl

theorem verify_records_getElem? {table : List TestVector} {n : Nat} {v : TestVector}
    (h : table[n]? = some v) : (verify table).records[n]? = some (recordOf n v) := by
  rw [verify_records, List.getElem?_mapIdx, h, Option.map_some]

/-- Settles O43: the records are the vectors' own in table order, and the counts count them. -/
theorem verifyRecordsAndCounts : Obligations.VerifyRecordsAndCounts := by
  refine ⟨fun table => ⟨verify_totalCount table, ?_, ?_, ?_, fun n v hv => ?_⟩, rfl⟩
  · rw [verify_records, List.length_mapIdx]
  · rw [verify_mismatchCount, countP_verify_records]
  · rw [verify_mismatchCount, verify_totalCount]
    exact List.countP_le_length
  · exact ⟨recordOf n v, verify_records_getElem? hv, rfl, rfl, rfl, rfl, rfl, rfl,
      checkVector_pass_iff v⟩

/-- Settles O44: the counts are `List.countP` and `List.length`, and a record is its vector's own. -/
theorem verifyOrderDoesNotMatter : Obligations.VerifyOrderDoesNotMatter := by
  refine ⟨fun a b => ?_, fun a b hperm => ?_, fun a b m n v r q ha hb hr hq => ?_⟩
  · simp only [verify_mismatchCount, verify_totalCount]
    exact ⟨List.countP_append, List.length_append⟩
  · simp only [verify_mismatchCount, verify_totalCount]
    exact ⟨hperm.countP_eq _, hperm.length_eq⟩
  · cases (verify_records_getElem? ha).symm.trans hr
    cases (verify_records_getElem? hb).symm.trans hq
    exact ⟨rfl, rfl⟩

/-! ### The success indicator (R86, R87) -/

theorem verify_mismatchCount_eq_zero_iff (table : List TestVector) :
    (verify table).mismatchCount = 0 ↔ ∀ v ∈ table, (checkVector v).pass = true := by
  rw [verify_mismatchCount, List.countP_eq_zero]
  simp only [Bool.not_eq_true', Bool.not_eq_false]

theorem Tally.success_iff (t : Tally) : t.success = true ↔ t.mismatchCount = 0 := beq_iff_eq

/-- Settles O45: no mismatch is counted exactly when CHECK passes every row. -/
theorem verifySucceedsOnMatchingTables : Obligations.VerifySucceedsOnMatchingTables := by
  refine ⟨fun table => ⟨?_, Tally.success_iff _⟩, verify_totalCount Config.refTable, by decide +kernel⟩
  simp only [verify_mismatchCount_eq_zero_iff, checkVector_pass_iff]

end Sys2Proof.Machine
end

section
/-! PROOFS. Results, never faults (spec `60_exceptions.md`): every operation and every edge has a next
state, and a mismatch shows in `rsp_pass` and the host's count alone. -/

namespace Sys2Proof.Machine

/-! ### A mismatch is a result (R101) -/

/-- All CHECK does: it computes the packed Frame's checksum and presents the comparison. The expected
checksum enters the response alone. -/
theorem exec_check (a d : Word) (c : Bool) (e : Word) (s : State) :
    exec (.check a d c e) s = .next { s with
      rspValid := true
      rsp := responseTo (.check a d c e)
      lfsr := crc3 (frameToPort (pack a d c))
      idx := 3#5 } := by
  rw [exec, execCheck, State.presentResponse_eq, State.computeCrc_crcResult, State.computeCrc_eq]
  rfl

/-- CHECK's flag compares the masked operand with the packed Frame's checksum (R80). -/
theorem responseTo_check_pass_iff (a d : Word) (c : Bool) (e : Word) :
    (responseTo (.check a d c e)).pass = true ↔
      e &&& 7#32 = (crc3 ((pack a d c).setWidth 32)).setWidth 32 :=
  (passFlag_iff _ e).trans eq_comm

/-- A turn of the Verifier's loop counts a mismatch exactly when the response does not pass (R82). -/
theorem Tally.add_mismatchCount (y : Tally) (v : TestVector) (r : Response) :
    (y.add v r).mismatchCount = y.mismatchCount + (if r.pass = true then 0 else 1) := by
  rw [Tally.add]
  cases r.pass <;> rfl

/-- Settles O21: the expected checksum reaches `rsp_pass` and nothing else. -/
theorem mismatchIsAResultNotAFault : Obligations.MismatchIsAResultNotAFault := by
  intro a d c e e' s
  have hpass := responseTo_check_pass_iff a d c e
  exact ⟨_, _, exec_check a d c e s, exec_check a d c e' s, rfl, hpass.2,
    fun hne => Bool.eq_false_iff.2 (mt hpass.1 hne), fun y v => Tally.add_mismatchCount y v _⟩

/-! ### No fault and no refusal (R100, R102) -/

/-- Settles O17: `exec_shape` and `step_cases` name the next state of every operation and every edge. -/
theorem nothingFaultsOrRefuses : Obligations.NothingFaultsOrRefuses := by
  constructor
  · intro i s
    obtain ⟨l, x, h⟩ := exec_shape i s
    exact ⟨_, h⟩
  · intro s
    obtain ⟨t, ht, -⟩ := step_cases s
    exact ⟨t, ht⟩

end Sys2Proof.Machine
end

section
/-! PROOFS. Reset, the handshake and time (spec `70_reset_and_hazards.md`): what one edge does to the
handshake, when a request in flight is answered, when an offer that is kept is accepted, and the same for
runs without end. -/

namespace Sys2Proof.Machine

/-! ### One edge (R111, R114, R115, R116) -/

/-- Settles O27. -/
theorem resetEdgeGoesToResetState : Obligations.ResetEdgeGoesToResetState :=
  fun _ hr => ⟨_, step_of_rst hr, rfl, rfl, rfl, rfl, rfl⟩

/-- Settles O36: an edge leads to a sound state from any state. -/
theorem handshakeSoundKeptByEveryStep : Obligations.HandshakeSoundKeptByEveryStep :=
  fun _ _ _ ht => step_sound ht

/-- Settles O31: the word stands in the latches with one edge to wait, where O30 applies. -/
theorem fetchedWordRunsNext : Obligations.FetchedWordRunsNext := by
  intro s nbits w i hi
  have hlatch : decode (s.withFetchWord nbits w).latch = i := Option.some.inj hi
  have hwf : i.wf = true := by cases i <;> rfl
  exact stepRunsTheLatchedOperation (s.withFetchWord nbits w) i rfl rfl rfl (Nat.le_refl 1) hlatch hwf

/-- Of this cycle's pins a busy block's edge reads `rst` alone; of the rest of the state it reads what the
next cycle holds. -/
theorem step_congr_of_busy {s s' : State} (hb : s.busy = true) (hr : s.pins.rst = s'.pins.rst)
    (hnext : s.nextPins = s'.nextPins) : step s = step s' := by
  have hb' : s'.nextPins.busy = true := hnext ▸ hb
  simp only [step, hnext, hr, hb', if_true]

/-- Settles O33. -/
theorem offerWhileBusyHasNoEffect : Obligations.OfferWhileBusyHasNoEffect :=
  fun _ _ _ _ hb hpq => step_congr_of_busy hb hpq rfl

/-- The edge that ends a response's cycle leaves the block idle, be it a reset or not. -/
theorem step_idle_of_rspValid {s t : State} (hv : s.rspValid = true) (ht : step s = .next t) :
    t.Idle := by
  obtain ⟨u, hu, -, -, hc⟩ := step_cases s
  cases ht.symm.trans hu
  obtain ⟨-, rfl⟩ | ⟨-, -, hb₁, hv₁⟩ | ⟨-, hv', -⟩ | ⟨-, hv', -⟩ | ⟨-, hv', -⟩ := hc
  · exact State.resetEdge_idle _
  · exact ⟨hb₁, hv₁⟩
  all_goals simp [hv] at hv'

/-- Settles O34. -/
theorem responseLastsOneCycle : Obligations.ResponseLastsOneCycle := by
  intro s hv
  obtain ⟨t, ht, -⟩ := step_cases s
  obtain ⟨hb₁, hv₁⟩ := step_idle_of_rspValid hv ht
  exact ⟨t, ht, hv₁, hb₁, by simp [State.reqReady, hb₁]⟩

/-- A sound block that is not busy presents nothing: it is idle. -/
theorem State.Sound.idle_of_not_busy {s : State} (h : s.Sound) (hb : s.busy = false) : s.Idle := by
  refine ⟨hb, Bool.eq_false_iff.2 fun hv => ?_⟩
  obtain ⟨hb', -⟩ := h.1 hv
  simp [hb] at hb'

/-- A sound block whose operation has not been answered yet waits for it. -/
theorem State.Sound.answersIn {s : State} (h : s.Sound) (hb : s.busy = true)
    (hv : s.rspValid = false) : s.AnswersIn s.latch s.wait :=
  ⟨hb, rfl, rfl, .inr ⟨h.2 hb hv, hv⟩⟩

theorem State.RunsTo.eq_of_step {s t u : State} {rs : List Request} {xs : List Response}
    (h : s.RunsTo 1 rs xs u) (ht : Machine.step s = .next t) : t = u := by
  cases (core_run_succ 0 ht).symm.trans h.run
  rfl

/-- The edge of an acceptance. -/
theorem State.Idle.step_answersIn {s t : State} (h : s.Idle) (hr : s.pins.rst = false)
    (ho : s.pins.reqValid = true) (ht : Machine.step s = .next t) :
    t.AnswersIn s.pins.req (Config.lat s.pins.req.op) := by
  obtain ⟨u, hrun, -, hu⟩ := h.runsTo_of_offer hr ho
  rwa [hrun.eq_of_step ht]

/-- The edge of a waiting cycle. -/
theorem State.AnswersIn.step {s t : State} {r : Request} {k : Nat} (h : s.AnswersIn r (k + 1))
    (hr : s.pins.rst = false) (ht : Machine.step s = .next t) : t.AnswersIn r k := by
  obtain ⟨u, hrun, -, hu⟩ := h.runsTo_succ hr
  rwa [hrun.eq_of_step ht]

/-- What is in flight does not depend on the pins. -/
theorem State.AnswersIn.under {s : State} {r : Request} {k : Nat} (h : s.AnswersIn r k) (q : Pins) :
    (s.under q).AnswersIn r k := h

theorem State.AnswersIn.busy {s : State} {r : Request} {k : Nat} (h : s.AnswersIn r k) :
    s.busy = true := h.1

theorem State.AnswersIn.latch {s : State} {r : Request} {k : Nat} (h : s.AnswersIn r k) :
    s.latch = r := by
  obtain ⟨-, hl, -⟩ := h
  exact hl

theorem State.AnswersIn.wait {s : State} {r : Request} {k : Nat} (h : s.AnswersIn r k) :
    s.wait = k := by
  obtain ⟨-, -, hw, -⟩ := h
  exact hw

theorem State.AnswersIn.rspValid_iff {s : State} {r : Request} {k : Nat} (h : s.AnswersIn r k) :
    s.rspValid = true ↔ k = 0 := by
  obtain ⟨-, -, -, ⟨hk, hv, -⟩ | ⟨hk, hv⟩⟩ := h
  · simp [hk, hv]
  · simp [hv, Nat.ne_of_gt hk]

theorem State.AnswersIn.rsp {s : State} {r : Request} (h : s.AnswersIn r 0) : s.rsp = respond r := by
  obtain ⟨-, -, -, ⟨-, -, hx⟩ | ⟨h0, -⟩⟩ := h
  · exact hx
  · omega

/-- Settles O32: an acceptance, an idle cycle and a waiting cycle, one lemma each. -/
theorem acceptanceSamplesOperands : Obligations.AcceptanceSamplesOperands := by
  intro s h hr
  obtain ⟨t, ht, -, hi, -⟩ := step_cases s
  refine ⟨t, ht, hi, fun hb ho => ?_, fun hb ho => ?_, fun hb hv => ?_⟩
  · have hans := (h.idle_of_not_busy hb).step_answersIn hr ho ht
    exact ⟨hans.busy, hans.latch, hans.wait, hans.rspValid_iff⟩
  · exact (h.idle_of_not_busy hb).step (State.acceptedNow_of_no_offer ho) ht
  · obtain ⟨k, hk⟩ : ∃ k, s.wait = k + 1 := Nat.exists_eq_succ_of_ne_zero (Nat.ne_of_gt (h.2 hb hv))
    have hans : t.AnswersIn s.latch k := (hk ▸ h.answersIn hb hv).step hr ht
    refine ⟨hans.busy, hans.latch, by rw [hans.wait, hk, Nat.add_sub_cancel], ?_⟩
    rw [hans.rspValid_iff, hk, Nat.add_eq_right]

/-! ### A request in flight is answered in time (R117) -/

theorem State.NoReset.of_step {s t : State} {n : Nat} (h : s.NoReset (n + 1))
    (ht : step s = .next t) : t.NoReset n := by
  obtain ⟨u, hu, hp, -⟩ := step_cases s
  cases ht.symm.trans hu
  exact fun k hk => by rw [hp, h (k + 1) (Nat.succ_lt_succ hk)]

theorem State.NoReset.pins_rst {s : State} {n : Nat} (h : s.NoReset (n + 1)) : s.pins.rst = false :=
  h 0 n.succ_pos

/-- Without a reset, a response is `j` cycles nearer after `j` cycles. -/
theorem State.AnswersIn.run {j k n : Nat} {s : State} {r : Request} (h : s.AnswersIn r (k + j))
    (hr : s.NoReset (n + j)) : ∃ t, core.run j s = .next t ∧ t.AnswersIn r k ∧ t.NoReset n := by
  induction j generalizing s with
  | zero => exact ⟨s, rfl, h, hr⟩
  | succ j ih =>
    obtain ⟨t, ht, -⟩ := step_cases s
    obtain ⟨u, hu, hans, hru⟩ := ih (h.step hr.pins_rst ht) (hr.of_step ht)
    exact ⟨u, (core_run_succ j ht).trans hu, hans, hru⟩

/-- From an acceptance on: `k` edges before the response it is owed, if no reset intervenes. -/
theorem State.Idle.run_answersIn {s : State} (h : s.Idle) (ho : s.pins.reqValid = true)
    (hr : s.NoReset (Config.lat s.pins.req.op + 2)) {j k : Nat}
    (hjk : k + j = Config.lat s.pins.req.op) :
    ∃ t, core.run (j + 1) s = .next t ∧ t.AnswersIn s.pins.req k ∧ t.NoReset (k + 1) := by
  obtain ⟨t, ht, -⟩ := step_cases s
  have hans : t.AnswersIn s.pins.req (k + j) := hjk ▸ h.step_answersIn hr.pins_rst ho ht
  have hrt : t.NoReset (k + 1 + j) := by
    rw [Nat.add_right_comm, hjk]
    exact hr.of_step ht
  obtain ⟨u, hu, hansu, hru⟩ := hans.run hrt
  exact ⟨u, (core_run_succ j ht).trans hu, hansu, hru⟩

/-- Settles O37: the countdown from `LAT(op)` to 0, one edge a cycle. -/
theorem answerComesAfterLatency : Obligations.AnswerComesAfterLatency := by
  rintro s _ h ho rfl hr
  obtain ⟨t, hrun, hans, hrt⟩ := h.run_answersIn ho hr (Nat.zero_add (Config.lat s.pins.req.op))
  have hv : t.rspValid = true := hans.rspValid_iff.2 rfl
  rw [Nat.add_comm] at hrun
  refine ⟨⟨t, hrun, by simp [State.presents, hv, hrt.pins_rst], hans.rsp⟩, fun k h0 hk => ?_, ?_⟩
  · obtain ⟨j, rfl⟩ : ∃ j, k = j + 1 := Nat.exists_eq_succ_of_ne_zero (Nat.ne_of_gt h0)
    obtain ⟨u, hu, hansu, -⟩ := h.run_answersIn ho hr (Nat.sub_add_cancel (Nat.le_of_succ_le hk))
    have hvu : ¬ u.rspValid = true := by
      rw [hansu.rspValid_iff]
      omega
    exact ⟨u, hu, by simp [State.presents, hvu], by simp [State.reqReady, hansu.busy]⟩
  · obtain ⟨u, hu, -⟩ := step_cases t
    refine ⟨u, ?_, step_idle_of_rspValid hv hu⟩
    rw [Nat.add_right_comm 1 1, core_run_add hrun]
    exact core_run_succ 0 hu

/-! ### A kept offer is accepted (R114, R117) -/

theorem State.accepts_iff (s : State) :
    s.accepts = true ↔ s.pins.reqValid = true ∧ s.busy = false ∧ s.pins.rst = false := by
  simp [State.accepts, State.reqReady, and_assoc]

theorem State.accepts_of_busy {s : State} (h : s.busy = true) : s.accepts = false := by
  simp [State.accepts, State.reqReady, h]

/-- In how many cycles a block that is not reset is ready: those of the operation in flight, the
response's among them. -/
def State.cyclesToReady (s : State) : Nat :=
  if s.busy then if s.rspValid then 1 else s.wait + 1 else 0

theorem State.cyclesToReady_le (s : State) : s.cyclesToReady ≤ s.wait + 1 := by
  unfold State.cyclesToReady
  split_ifs <;> omega

theorem State.cyclesToReady_eq_zero_iff (s : State) : s.cyclesToReady = 0 ↔ s.busy = false := by
  cases hb : s.busy <;> cases hv : s.rspValid <;> simp [State.cyclesToReady, hb, hv]

@[simp] theorem State.under_cyclesToReady (s : State) (q : Pins) :
    (s.under q).cyclesToReady = s.cyclesToReady := rfl

theorem State.busy_of_cyclesToReady {s : State} {n : Nat} (h : s.cyclesToReady = n + 1) :
    s.busy = true := by
  rw [← Bool.not_eq_false, ← s.cyclesToReady_eq_zero_iff]
  omega

theorem State.AnswersIn.cyclesToReady {s : State} {r : Request} {k : Nat} (h : s.AnswersIn r k) :
    s.cyclesToReady = k + 1 := by
  cases hv : s.rspValid
  · simp [State.cyclesToReady, h.busy, hv, h.wait]
  · simp [State.cyclesToReady, h.busy, hv, h.rspValid_iff.1 hv]

/-- Every cycle without a reset brings a busy block one nearer to being ready. -/
theorem State.Sound.cyclesToReady_step {s t : State} {n : Nat} (h : s.Sound)
    (hr : s.pins.rst = false) (hn : s.cyclesToReady = n + 1) (ht : step s = .next t) :
    t.cyclesToReady = n := by
  have hb : s.busy = true := State.busy_of_cyclesToReady hn
  cases hv : s.rspValid
  case true =>
    obtain ⟨hb₁, -⟩ := step_idle_of_rspValid hv ht
    obtain rfl : n = 0 := by simpa [State.cyclesToReady, hb, hv] using hn.symm
    rwa [State.cyclesToReady_eq_zero_iff]
  case false =>
    have hans : s.AnswersIn s.latch s.wait := h.answersIn hb hv
    have hwait : 0 < s.wait := h.2 hb hv
    obtain ⟨k, hk⟩ : ∃ k, s.wait = k + 1 := Nat.exists_eq_succ_of_ne_zero (Nat.ne_of_gt hwait)
    rw [hans.cyclesToReady] at hn
    rw [hk] at hans
    rw [(hans.step hr ht).cyclesToReady]
    omega

/-- A host that keeps its offer meets a ready block as soon as there is one. -/
theorem State.Sound.run_accepts_of_kept_offer {n : Nat} {s : State} (h : s.Sound)
    (hn : s.cyclesToReady < n) (ho : s.pins.reqValid = true) (hk : HostKeepsOffer n s)
    (hr : s.NoReset n) : ∃ t, core.run s.cyclesToReady s = .next t ∧ t.accepts = true := by
  induction n generalizing s with
  | zero => omega
  | succ n ih =>
    obtain ⟨hkeep, hlater⟩ := hk
    cases hc : s.cyclesToReady with
    | zero => exact ⟨s, rfl, s.accepts_iff.2 ⟨ho, s.cyclesToReady_eq_zero_iff.1 hc, hr.pins_rst⟩⟩
    | succ d =>
      obtain ⟨t, ht, hp, -⟩ := step_cases s
      have hd : t.cyclesToReady = d := h.cyclesToReady_step hr.pins_rst hc ht
      have hot : t.pins.reqValid = true :=
        (congrArg Pins.reqValid (hp 0)).trans
          (hkeep ho (State.accepts_of_busy (State.busy_of_cyclesToReady hc)))
      obtain ⟨u, hu, ha⟩ := ih (step_sound ht) (by omega) hot (hlater t ht) (hr.of_step ht)
      exact ⟨u, (core_run_succ d ht).trans (hd ▸ hu), ha⟩

/-- Settles O41: the block is ready within `wait` + 1 cycles, and after a reset edge. -/
theorem keptOfferIsAccepted : Obligations.KeptOfferIsAccepted := by
  constructor
  · intro s h ho hk hr
    have hle := s.cyclesToReady_le
    obtain ⟨t, ht, ha⟩ := h.run_accepts_of_kept_offer (by omega) ho hk hr
    exact ⟨s.cyclesToReady, t, hle, ht, ha⟩
  · rintro s hr ho ⟨hkeep, -⟩
    have hna : s.accepts = false := by simp [State.accepts, hr]
    have hot : s.nextPins.resetEdge.pins.reqValid = true :=
      (congrArg Pins.reqValid (s.nextPins_pinsAt 0)).trans (hkeep ho hna)
    exact ⟨hna, _, step_of_rst hr, rfl, hot, by simp [State.accepts_iff, hot]⟩

/-! ### Runs without end (R118) -/

/-- The handshake's invariant does not speak of the pins. -/
theorem State.Sound.under {s : State} (h : s.Sound) (q : Pins) : (s.under q).Sound := h

/-- The handshake's invariant holds in every cycle of a run without end. -/
theorem State.Sound.runUnder {s : State} (h : s.Sound) (host : Nat → Pins) (n : Nat) :
    (runUnder host s n).Sound := by
  cases n with
  | zero => exact h.under (host 0)
  | succ n =>
    obtain ⟨t, ht, hsucc⟩ := runUnder_succ host s n
    exact hsucc ▸ (step_sound ht).under (host (n + 1))

/-- The request `r` in flight ends in this cycle: answered with what it is owed, or abandoned by a
reset. -/
def State.Ends (s : State) (r : Request) : Prop :=
  s.resolvedNow = [(r, some (respond r))] ∨ (s.resolvedNow = [(r, none)] ∧ s.pins.rst = true)

theorem State.AnswersIn.ends_of_rst {s : State} {r : Request} {k : Nat} (h : s.AnswersIn r k)
    (hr : s.pins.rst = true) : s.Ends r :=
  .inr ⟨by rw [State.resolvedNow_of_rst hr, State.inFlight_of_busy h.busy, h.latch]; rfl, hr⟩

theorem State.AnswersIn.ends_of_due {s : State} {r : Request} (h : s.AnswersIn r 0)
    (hr : s.pins.rst = false) : s.Ends r :=
  .inl (by rw [State.resolvedNow_of_response hr h.busy (h.rspValid_iff.2 rfl), h.latch, h.rsp])

/-- The request `r`, in flight in cycle `n` of a run without end, ends by cycle `b`, and until then nothing
is accepted. -/
def EndsUnder (host : Nat → Pins) (s : State) (r : Request) (n b : Nat) : Prop :=
  ∃ m, n ≤ m ∧ m ≤ b ∧ (runUnder host s m).Ends r ∧
    ∀ j, n ≤ j → j ≤ m → (runUnder host s j).accepts = false

theorem EndsUnder.of_ends {host : Nat → Pins} {s : State} {r : Request} {n b : Nat} (hnb : n ≤ b)
    (hb : (runUnder host s n).busy = true) (h : (runUnder host s n).Ends r) :
    EndsUnder host s r n b :=
  ⟨n, Nat.le_refl n, hnb, h, fun _ hnj hjn => Nat.le_antisymm hnj hjn ▸ State.accepts_of_busy hb⟩

/-- A busy cycle before the request's end accepts nothing. -/
theorem EndsUnder.of_succ {host : Nat → Pins} {s : State} {r : Request} {n b : Nat}
    (hb : (runUnder host s n).busy = true) (h : EndsUnder host s r (n + 1) b) :
    EndsUnder host s r n b := by
  obtain ⟨m, hnm, hmb, hends, hna⟩ := h
  refine ⟨m, Nat.le_of_succ_le hnm, hmb, hends, fun j hnj hjm => ?_⟩
  obtain rfl | hlt := Nat.eq_or_lt_of_le hnj
  · exact State.accepts_of_busy hb
  · exact hna j hlt hjm

/-- In a run without end, a request in flight ends by the cycle its response is due, if no reset ends it
before. -/
theorem endsUnder_of_answersIn {host : Nat → Pins} {s : State} {r : Request} {k n : Nat}
    (h : (runUnder host s n).AnswersIn r k) : EndsUnder host s r n (n + k) := by
  induction k generalizing n with
  | zero =>
    refine .of_ends (Nat.le_refl n) h.busy ?_
    cases hr : (runUnder host s n).pins.rst
    · exact h.ends_of_due hr
    · exact h.ends_of_rst hr
  | succ k ih =>
    cases hr : (runUnder host s n).pins.rst
    · obtain ⟨t, ht, hsucc⟩ := runUnder_succ host s n
      have hans : (runUnder host s (n + 1)).AnswersIn r k := hsucc ▸ (h.step hr ht).under _
      rw [Nat.add_comm k 1, ← Nat.add_assoc]
      exact .of_succ h.busy (ih hans)
    · exact .of_ends (Nat.le_add_right n _) h.busy (h.ends_of_rst hr)

/-- In a run without end, a request is in flight in the cycle after its acceptance. -/
theorem runUnder_answersIn_of_accepts {host : Nat → Pins} {s : State} {n : Nat} (h : s.Sound)
    (ha : (runUnder host s n).accepts = true) :
    (runUnder host s (n + 1)).AnswersIn (host n).req (Config.lat (host n).req.op) := by
  obtain ⟨ho, hb, hr⟩ := (State.accepts_iff _).1 ha
  obtain ⟨t, ht, hsucc⟩ := runUnder_succ host s n
  have hans := ((h.runUnder host n).idle_of_not_busy hb).step_answersIn hr ho ht
  rw [runUnder_pins] at hans
  exact hsucc ▸ hans.under _

/-- Settles O51: in flight after its acceptance, the request ends in time. -/
theorem everyAcceptanceInAnEndlessRunEnds : Obligations.EveryAcceptanceInAnEndlessRunEnds := by
  intro host s n h ha
  obtain ⟨m, hnm, hmb, hends, hna⟩ := endsUnder_of_answersIn (runUnder_answersIn_of_accepts h ha)
  exact ⟨m, hnm, hmb, by rwa [State.Ends, runUnder_pins] at hends, hna⟩

theorem State.presents_of_presentedNow {s : State} {x : Response} (h : s.presentedNow = [x]) :
    s.presents = true ∧ s.rsp = x := by
  rw [State.presentedNow] at h
  split at h
  case isTrue hp => exact ⟨hp, List.singleton_inj.1 h⟩
  case isFalse => simp at h

/-- The end of a request with a response is that response's cycle. -/
theorem State.Sound.presents_of_resolvedNow {s : State} {r : Request} {x : Response} (h : s.Sound)
    (hend : s.resolvedNow = [(r, some x)]) : s.presents = true ∧ s.rsp = x := by
  refine State.presents_of_presentedNow ?_
  rw [h.presentedNow_eq_filterMap, hend]
  rfl

/-- In a run without end and without a reset, an offer that is kept is accepted as soon as the block is
ready. -/
theorem runUnder_accepts_of_kept_offer {host : Nat → Pins} {s : State} {d n : Nat} (h : s.Sound)
    (hr : ∀ n, (host n).rst = false) (hk : HostAlwaysKeepsOffer host s)
    (hd : (runUnder host s n).cyclesToReady = d) (ho : (host n).reqValid = true) :
    (runUnder host s (n + d)).accepts = true := by
  induction d generalizing n with
  | zero =>
    rw [State.cyclesToReady_eq_zero_iff] at hd
    simp [State.accepts_iff, ho, hd, hr]
  | succ d ih =>
    have hrst : (runUnder host s n).pins.rst = false := by rw [runUnder_pins, hr]
    have hna := State.accepts_of_busy (State.busy_of_cyclesToReady hd)
    obtain ⟨t, ht, hsucc⟩ := runUnder_succ host s n
    have hd' : (runUnder host s (n + 1)).cyclesToReady = d := by
      rw [hsucc, State.under_cyclesToReady]
      exact (h.runUnder host n).cyclesToReady_step hrst hd ht
    rw [Nat.add_comm d 1, ← Nat.add_assoc]
    exact ih hd' (hk n ho hna)

/-- Settles O52: an offer that is kept is accepted, and with no reset its end (O51) is its response. -/
theorem endlessOffersAreServedWithoutEnd : Obligations.EndlessOffersAreServedWithoutEnd := by
  intro host s h hr hoffers hk n
  obtain ⟨i, hni, ho⟩ := hoffers n
  have ha := runUnder_accepts_of_kept_offer h hr hk rfl ho
  obtain ⟨m, hlt, -, hends, -⟩ := everyAcceptanceInAnEndlessRunEnds host s _ h ha
  refine ⟨_, m, Nat.le_trans hni (Nat.le_add_right i _), hlt, ha, ?_⟩
  obtain hanswered | ⟨-, hrst⟩ := hends
  · exact (h.runUnder host m).presents_of_resolvedNow hanswered
  · simp [hr] at hrst

end Sys2Proof.Machine
end
